-- ==== Sys2Proof/Word.lean ====
section
/-! DEFINITION. The words of the block: 32-bit cells, byte lanes, the signals of the port (spec 00_scope.md R3,
30_encoding.md R50, R51). -/

namespace Sys2Proof

/-- A cell, a base, a sample component or a write value: an unsigned 32-bit integer (R3). -/
abbrev Word := BitVec 32

/-- One byte lane of a cell (R34). -/
abbrev Byte := BitVec 8

/-- The byte offset on `addr`, 13 bits: 0x0000 to 0x1FFF (R5, R30, R50). -/
abbrev Offset := BitVec 13

/-- The register index an offset selects, `addr[12:4]` (R52). -/
abbrev Index := BitVec 9

/-- The position inside a register's 16-byte window, `addr[3:0]` (R53). -/
abbrev SubOffset := BitVec 4

/-- The encoded access width on `size` (R50, R54). -/
abbrev Size := BitVec 2

/-- The 16-bit command word `we ++ size ++ addr` (R51). -/
abbrev CommandWord := BitVec 16

end Sys2Proof
end

