-- ==== Sys2Proof/Config.lean ====
section
/-! DEFINITION. What is fixed for one block: the register enumeration, the parameters of spec 00_scope.md section 4,
and the two open parameters of spec 92_eei_decisions.md. -/

namespace Sys2Proof

/-- The register index enumeration (R2, R11): exactly one cell per name, and no other index is representable (R12).
PERSISTENT5 is a cell of its own (90_conflicts.md C1, log 11). -/
inductive Reg where
  | ctrl | stat | milliseconds | seconds | alarm | watchdog
  | persistent0 | persistent1 | persistent2 | persistent3 | persistent4 | persistent5
  | debug | version
deriving DecidableEq, Repr

/-- The three access widths of R6: 1, 2 and 4 bytes. -/
inductive Width where
  | byte | half | word
deriving DecidableEq, Repr

/-- The number of defined register indices (R2). -/
def Config.nRegs : Nat := 14

/-- The distance in bytes between register windows (R4). -/
def Config.stride : Nat := 16

/-- The size in bytes of the addressable window (R5). -/
def Config.windowSize : Nat := 0x2000

/-- `WINDOW_BASE`, the bus address of offset 0: an OPEN parameter, the platform's (R46, D4, log 9). It has no body, so
nothing can be proved of its value; no operation reads it. -/
opaque Config.windowBase : Nat

/-- `EPOCH`, the instant (in seconds of the host's clock) at which `now_sec` is 0: an OPEN parameter (R100, D12,
log 9). It has no body; no operation reads it. -/
opaque Config.epoch : Int

end Sys2Proof
end

