-- ==== Sys2Proof/Machine/Flags.lean ====
section
/-! DEFINITION. The ControlLatch: the only flag-like side effect of the block (spec 42_control_latch.md R115, R118;
10_state.md R13, R26). -/

namespace Sys2Proof.Machine

/-- `GATE_REQ`, CTRL bit 31 (R13). -/
def gateReq (ctrl : Word) : Bool := ctrl.getLsbD 31

/-- `GATE_ACK`, CTRL bit 30 (R13). -/
def gateAck (ctrl : Word) : Bool := ctrl.getLsbD 30

/-- The latch fires: bit 31 of the written value is newly set against the true pre-write content (R115,
90_conflicts.md C3, log 10). -/
def latchFires (old new : Word) : Bool := gateReq new && !gateReq old

/-- `apply_write` (R115): the value to store in CTRL. -/
def applyWrite (old new : Word) : Word :=
  if latchFires old new then new ||| 0x40000000 else new

end Sys2Proof.Machine
end

