-- ==== Sys2Proof/Syntax.lean ====
section
/-! DEFINITION. The operations of the block as data, one constructor per mnemonic of spec/opcode_table.json (spec
30_encoding.md R57). The six mask rows of RD.BAD and of WR.BAD are one operation each (log 6). -/

namespace Sys2Proof

/-- One bus operation with its operands (R50, R57). A read keeps `size` and `sub` although it ignores them (R59), so
that no bit of the command word is lost; a write carries `wdata` too (R51). -/
inductive Instr where
  /-- RD.CTRL (R116). -/
  | rdCtrl (size : Size) (sub : SubOffset)
  /-- WR.CTRL (R117). -/
  | wrCtrl (size : Size) (sub : SubOffset) (wdata : Word)
  /-- RD.STAT (R73). -/
  | rdStat (size : Size) (sub : SubOffset)
  /-- WR.STAT (R74). -/
  | wrStat (size : Size) (sub : SubOffset) (wdata : Word)
  /-- RD.MILLISECONDS (R104). -/
  | rdMilliseconds (size : Size) (sub : SubOffset)
  /-- WR.MILLISECONDS (R106). -/
  | wrMilliseconds (size : Size) (sub : SubOffset) (wdata : Word)
  /-- RD.SECONDS (R105). -/
  | rdSeconds (size : Size) (sub : SubOffset)
  /-- WR.SECONDS (R107). -/
  | wrSeconds (size : Size) (sub : SubOffset) (wdata : Word)
  /-- RD.ALARM (R75). -/
  | rdAlarm (size : Size) (sub : SubOffset)
  /-- WR.ALARM (R76). -/
  | wrAlarm (size : Size) (sub : SubOffset) (wdata : Word)
  /-- RD.WATCHDOG (R77). -/
  | rdWatchdog (size : Size) (sub : SubOffset)
  /-- WR.WATCHDOG (R78). -/
  | wrWatchdog (size : Size) (sub : SubOffset) (wdata : Word)
  /-- RD.PERSISTENT0 (R79). -/
  | rdPersistent0 (size : Size) (sub : SubOffset)
  /-- WR.PERSISTENT0 (R80). -/
  | wrPersistent0 (size : Size) (sub : SubOffset) (wdata : Word)
  /-- RD.PERSISTENT1 (R81). -/
  | rdPersistent1 (size : Size) (sub : SubOffset)
  /-- WR.PERSISTENT1 (R82). -/
  | wrPersistent1 (size : Size) (sub : SubOffset) (wdata : Word)
  /-- RD.PERSISTENT2 (R83). -/
  | rdPersistent2 (size : Size) (sub : SubOffset)
  /-- WR.PERSISTENT2 (R84). -/
  | wrPersistent2 (size : Size) (sub : SubOffset) (wdata : Word)
  /-- RD.PERSISTENT3 (R85). -/
  | rdPersistent3 (size : Size) (sub : SubOffset)
  /-- WR.PERSISTENT3 (R86). -/
  | wrPersistent3 (size : Size) (sub : SubOffset) (wdata : Word)
  /-- RD.PERSISTENT4 (R87). -/
  | rdPersistent4 (size : Size) (sub : SubOffset)
  /-- WR.PERSISTENT4 (R88). -/
  | wrPersistent4 (size : Size) (sub : SubOffset) (wdata : Word)
  /-- RD.PERSISTENT5 (R89). -/
  | rdPersistent5 (size : Size) (sub : SubOffset)
  /-- WR.PERSISTENT5 (R90). -/
  | wrPersistent5 (size : Size) (sub : SubOffset) (wdata : Word)
  /-- RD.DEBUG (R91). -/
  | rdDebug (size : Size) (sub : SubOffset)
  /-- WR.DEBUG (R92). -/
  | wrDebug (size : Size) (sub : SubOffset) (wdata : Word)
  /-- RD.VERSION (R93). -/
  | rdVersion (size : Size) (sub : SubOffset)
  /-- WR.VERSION (R94). -/
  | wrVersion (size : Size) (sub : SubOffset) (wdata : Word)
  /-- RD.BAD: read at an offset that selects no register (R128). -/
  | rdBad (idx : Index) (size : Size) (sub : SubOffset)
  /-- WR.BAD: write at an offset that selects no register (R129). -/
  | wrBad (idx : Index) (size : Size) (sub : SubOffset) (wdata : Word)
deriving DecidableEq, Repr

end Sys2Proof
end

