-- ==== Sys2Proof/WellFormed.lean ====
section
/-! DEFINITION. Which operations an encoding can stand for (spec 30_encoding.md R57, R58): the index of RD.BAD and
WR.BAD selects no register. Every other operand is bounded by its type, and no `size` or `sub` is illegal (R54, R58). -/

namespace Sys2Proof

/-- The index selects no register: 14 to 511 (R52, R135). -/
def badIndex (idx : Index) : Bool := 14 <= idx.toNat

/-- Well-formedness of an operation. -/
def Instr.wf : Instr → Bool
  | .rdCtrl _ _ => true
  | .wrCtrl _ _ _ => true
  | .rdStat _ _ => true
  | .wrStat _ _ _ => true
  | .rdMilliseconds _ _ => true
  | .wrMilliseconds _ _ _ => true
  | .rdSeconds _ _ => true
  | .wrSeconds _ _ _ => true
  | .rdAlarm _ _ => true
  | .wrAlarm _ _ _ => true
  | .rdWatchdog _ _ => true
  | .wrWatchdog _ _ _ => true
  | .rdPersistent0 _ _ => true
  | .wrPersistent0 _ _ _ => true
  | .rdPersistent1 _ _ => true
  | .wrPersistent1 _ _ _ => true
  | .rdPersistent2 _ _ => true
  | .wrPersistent2 _ _ _ => true
  | .rdPersistent3 _ _ => true
  | .wrPersistent3 _ _ _ => true
  | .rdPersistent4 _ _ => true
  | .wrPersistent4 _ _ _ => true
  | .rdPersistent5 _ _ => true
  | .wrPersistent5 _ _ _ => true
  | .rdDebug _ _ => true
  | .wrDebug _ _ _ => true
  | .rdVersion _ _ => true
  | .wrVersion _ _ _ => true
  | .rdBad idx _ _ => badIndex idx
  | .wrBad idx _ _ _ => badIndex idx

end Sys2Proof
end

