-- ==== Sys2Proof/Decode.lean ====
section
/-! DEFINITION. The command word (spec 30_encoding.md R51), the decoder (R52, R57), the encoder, and the rows of the
opcode table as data. Decoding is total: every command word is exactly one operation (R57, R58, R130), so nothing is
rejected. -/

namespace Sys2Proof

/-! ## The fields of the command word (R51) -/

/-- `CW = we ++ size ++ idx ++ sub` (R51). -/
def packCw (we : Bool) (size : Size) (idx : Index) (sub : SubOffset) : CommandWord :=
  BitVec.ofBool we ++ size ++ (idx ++ sub)

/-- `CW[15]`: 0 read, 1 write (R51). -/
def cwWe (cw : CommandWord) : Bool := cw.getLsbD 15

/-- `CW[14:13]` (R51, R54). -/
def cwSize (cw : CommandWord) : Size := cw.extractLsb' 13 2

/-- `CW[12:4]`, the register index (R51, R52). -/
def cwIdx (cw : CommandWord) : Index := cw.extractLsb' 4 9

/-- `CW[3:0]`, the lane selector (R51, R53). -/
def cwSub (cw : CommandWord) : SubOffset := cw.extractLsb' 0 4

/-! ## The address map (R11, R31, R57) -/

/-- The index of a register (R11). -/
def Reg.idx : Reg → Index
  | .ctrl => 0
  | .stat => 1
  | .milliseconds => 2
  | .seconds => 3
  | .alarm => 4
  | .watchdog => 5
  | .persistent0 => 6
  | .persistent1 => 7
  | .persistent2 => 8
  | .persistent3 => 9
  | .persistent4 => 10
  | .persistent5 => 11
  | .debug => 12
  | .version => 13

/-- The register an index selects: `none` for 14 to 511 (R11, R31, R52). -/
def regOfIdx (idx : Index) : Option Reg :=
  match idx.toNat with
  | 0 => some .ctrl
  | 1 => some .stat
  | 2 => some .milliseconds
  | 3 => some .seconds
  | 4 => some .alarm
  | 5 => some .watchdog
  | 6 => some .persistent0
  | 7 => some .persistent1
  | 8 => some .persistent2
  | 9 => some .persistent3
  | 10 => some .persistent4
  | 11 => some .persistent5
  | 12 => some .debug
  | 13 => some .version
  | _ => none

/-! ## Decoding (R57) -/

/-- The read operation of a register (R57). -/
def readOf (r : Reg) (size : Size) (sub : SubOffset) : Instr :=
  match r with
  | .ctrl => .rdCtrl size sub
  | .stat => .rdStat size sub
  | .milliseconds => .rdMilliseconds size sub
  | .seconds => .rdSeconds size sub
  | .alarm => .rdAlarm size sub
  | .watchdog => .rdWatchdog size sub
  | .persistent0 => .rdPersistent0 size sub
  | .persistent1 => .rdPersistent1 size sub
  | .persistent2 => .rdPersistent2 size sub
  | .persistent3 => .rdPersistent3 size sub
  | .persistent4 => .rdPersistent4 size sub
  | .persistent5 => .rdPersistent5 size sub
  | .debug => .rdDebug size sub
  | .version => .rdVersion size sub

/-- The write operation of a register (R57). -/
def writeOf (r : Reg) (size : Size) (sub : SubOffset) (wdata : Word) : Instr :=
  match r with
  | .ctrl => .wrCtrl size sub wdata
  | .stat => .wrStat size sub wdata
  | .milliseconds => .wrMilliseconds size sub wdata
  | .seconds => .wrSeconds size sub wdata
  | .alarm => .wrAlarm size sub wdata
  | .watchdog => .wrWatchdog size sub wdata
  | .persistent0 => .wrPersistent0 size sub wdata
  | .persistent1 => .wrPersistent1 size sub wdata
  | .persistent2 => .wrPersistent2 size sub wdata
  | .persistent3 => .wrPersistent3 size sub wdata
  | .persistent4 => .wrPersistent4 size sub wdata
  | .persistent5 => .wrPersistent5 size sub wdata
  | .debug => .wrDebug size sub wdata
  | .version => .wrVersion size sub wdata

/-- The operation a command word and its write value stand for: selected by `(we, idx)` alone, an index that selects
no register giving RD.BAD or WR.BAD (R57, R58). `wdata` is ignored on a read (R50). -/
def decode (cw : CommandWord) (wdata : Word) : Instr :=
  match cwWe cw, regOfIdx (cwIdx cw) with
  | false, some r => readOf r (cwSize cw) (cwSub cw)
  | false, none => .rdBad (cwIdx cw) (cwSize cw) (cwSub cw)
  | true, some r => writeOf r (cwSize cw) (cwSub cw) wdata
  | true, none => .wrBad (cwIdx cw) (cwSize cw) (cwSub cw) wdata

/-! ## Encoding (R51, R57) -/

/-- The command word and the write value of an operation; a read carries the write value 0, which it ignores
(R50, R51). The indices are the `match` columns of the opcode table. -/
def encode : Instr → CommandWord × Word
  | .rdCtrl size sub => (packCw false size 0 sub, 0)
  | .wrCtrl size sub wdata => (packCw true size 0 sub, wdata)
  | .rdStat size sub => (packCw false size 1 sub, 0)
  | .wrStat size sub wdata => (packCw true size 1 sub, wdata)
  | .rdMilliseconds size sub => (packCw false size 2 sub, 0)
  | .wrMilliseconds size sub wdata => (packCw true size 2 sub, wdata)
  | .rdSeconds size sub => (packCw false size 3 sub, 0)
  | .wrSeconds size sub wdata => (packCw true size 3 sub, wdata)
  | .rdAlarm size sub => (packCw false size 4 sub, 0)
  | .wrAlarm size sub wdata => (packCw true size 4 sub, wdata)
  | .rdWatchdog size sub => (packCw false size 5 sub, 0)
  | .wrWatchdog size sub wdata => (packCw true size 5 sub, wdata)
  | .rdPersistent0 size sub => (packCw false size 6 sub, 0)
  | .wrPersistent0 size sub wdata => (packCw true size 6 sub, wdata)
  | .rdPersistent1 size sub => (packCw false size 7 sub, 0)
  | .wrPersistent1 size sub wdata => (packCw true size 7 sub, wdata)
  | .rdPersistent2 size sub => (packCw false size 8 sub, 0)
  | .wrPersistent2 size sub wdata => (packCw true size 8 sub, wdata)
  | .rdPersistent3 size sub => (packCw false size 9 sub, 0)
  | .wrPersistent3 size sub wdata => (packCw true size 9 sub, wdata)
  | .rdPersistent4 size sub => (packCw false size 10 sub, 0)
  | .wrPersistent4 size sub wdata => (packCw true size 10 sub, wdata)
  | .rdPersistent5 size sub => (packCw false size 11 sub, 0)
  | .wrPersistent5 size sub wdata => (packCw true size 11 sub, wdata)
  | .rdDebug size sub => (packCw false size 12 sub, 0)
  | .wrDebug size sub wdata => (packCw true size 12 sub, wdata)
  | .rdVersion size sub => (packCw false size 13 sub, 0)
  | .wrVersion size sub wdata => (packCw true size 13 sub, wdata)
  | .rdBad idx size sub => (packCw false size idx sub, 0)
  | .wrBad idx size sub wdata => (packCw true size idx sub, wdata)

/-! ## The opcode table as data (R51, R57) -/

/-- One row of the opcode table: a command word `cw` selects it when `cw & mask = pattern` (R51). -/
structure OpcodeRow where
  /-- the row's mnemonic -/
  mnemonic : String
  /-- the row's `match` column -/
  pattern : CommandWord
  /-- the row's `mask` column -/
  mask : CommandWord
deriving DecidableEq, Repr

/-- The row's test (R51). -/
def OpcodeRow.selects (row : OpcodeRow) (cw : CommandWord) : Bool := cw &&& row.mask == row.pattern

/-- The fourteen rows of the defined reads. -/
def readRows : List OpcodeRow :=
  [⟨"RD.CTRL", 0x0000, 0x9FF0⟩,
   ⟨"RD.STAT", 0x0010, 0x9FF0⟩,
   ⟨"RD.MILLISECONDS", 0x0020, 0x9FF0⟩,
   ⟨"RD.SECONDS", 0x0030, 0x9FF0⟩,
   ⟨"RD.ALARM", 0x0040, 0x9FF0⟩,
   ⟨"RD.WATCHDOG", 0x0050, 0x9FF0⟩,
   ⟨"RD.PERSISTENT0", 0x0060, 0x9FF0⟩,
   ⟨"RD.PERSISTENT1", 0x0070, 0x9FF0⟩,
   ⟨"RD.PERSISTENT2", 0x0080, 0x9FF0⟩,
   ⟨"RD.PERSISTENT3", 0x0090, 0x9FF0⟩,
   ⟨"RD.PERSISTENT4", 0x00A0, 0x9FF0⟩,
   ⟨"RD.PERSISTENT5", 0x00B0, 0x9FF0⟩,
   ⟨"RD.DEBUG", 0x00C0, 0x9FF0⟩,
   ⟨"RD.VERSION", 0x00D0, 0x9FF0⟩]

/-- The fourteen rows of the defined writes. -/
def writeRows : List OpcodeRow :=
  [⟨"WR.CTRL", 0x8000, 0x9FF0⟩,
   ⟨"WR.STAT", 0x8010, 0x9FF0⟩,
   ⟨"WR.MILLISECONDS", 0x8020, 0x9FF0⟩,
   ⟨"WR.SECONDS", 0x8030, 0x9FF0⟩,
   ⟨"WR.ALARM", 0x8040, 0x9FF0⟩,
   ⟨"WR.WATCHDOG", 0x8050, 0x9FF0⟩,
   ⟨"WR.PERSISTENT0", 0x8060, 0x9FF0⟩,
   ⟨"WR.PERSISTENT1", 0x8070, 0x9FF0⟩,
   ⟨"WR.PERSISTENT2", 0x8080, 0x9FF0⟩,
   ⟨"WR.PERSISTENT3", 0x8090, 0x9FF0⟩,
   ⟨"WR.PERSISTENT4", 0x80A0, 0x9FF0⟩,
   ⟨"WR.PERSISTENT5", 0x80B0, 0x9FF0⟩,
   ⟨"WR.DEBUG", 0x80C0, 0x9FF0⟩,
   ⟨"WR.VERSION", 0x80D0, 0x9FF0⟩]

/-- The twelve rows of RD.BAD and WR.BAD: indices 14-15, 16-31, 32-63, 64-127, 128-255, 256-511 (R57). -/
def badRows : List OpcodeRow :=
  [⟨"RD.BAD", 0x00E0, 0x9FE0⟩,
   ⟨"RD.BAD", 0x0100, 0x9F00⟩,
   ⟨"RD.BAD", 0x0200, 0x9E00⟩,
   ⟨"RD.BAD", 0x0400, 0x9C00⟩,
   ⟨"RD.BAD", 0x0800, 0x9800⟩,
   ⟨"RD.BAD", 0x1000, 0x9000⟩,
   ⟨"WR.BAD", 0x80E0, 0x9FE0⟩,
   ⟨"WR.BAD", 0x8100, 0x9F00⟩,
   ⟨"WR.BAD", 0x8200, 0x9E00⟩,
   ⟨"WR.BAD", 0x8400, 0x9C00⟩,
   ⟨"WR.BAD", 0x8800, 0x9800⟩,
   ⟨"WR.BAD", 0x9000, 0x9000⟩]

/-- The forty rows of spec/opcode_table.json. -/
def opcodeTable : List OpcodeRow := readRows ++ writeRows ++ badRows

/-- The mnemonic of an operation, as the opcode table spells it (R57). -/
def Instr.mnemonic : Instr → String
  | .rdCtrl _ _ => "RD.CTRL"
  | .wrCtrl _ _ _ => "WR.CTRL"
  | .rdStat _ _ => "RD.STAT"
  | .wrStat _ _ _ => "WR.STAT"
  | .rdMilliseconds _ _ => "RD.MILLISECONDS"
  | .wrMilliseconds _ _ _ => "WR.MILLISECONDS"
  | .rdSeconds _ _ => "RD.SECONDS"
  | .wrSeconds _ _ _ => "WR.SECONDS"
  | .rdAlarm _ _ => "RD.ALARM"
  | .wrAlarm _ _ _ => "WR.ALARM"
  | .rdWatchdog _ _ => "RD.WATCHDOG"
  | .wrWatchdog _ _ _ => "WR.WATCHDOG"
  | .rdPersistent0 _ _ => "RD.PERSISTENT0"
  | .wrPersistent0 _ _ _ => "WR.PERSISTENT0"
  | .rdPersistent1 _ _ => "RD.PERSISTENT1"
  | .wrPersistent1 _ _ _ => "WR.PERSISTENT1"
  | .rdPersistent2 _ _ => "RD.PERSISTENT2"
  | .wrPersistent2 _ _ _ => "WR.PERSISTENT2"
  | .rdPersistent3 _ _ => "RD.PERSISTENT3"
  | .wrPersistent3 _ _ _ => "WR.PERSISTENT3"
  | .rdPersistent4 _ _ => "RD.PERSISTENT4"
  | .wrPersistent4 _ _ _ => "WR.PERSISTENT4"
  | .rdPersistent5 _ _ => "RD.PERSISTENT5"
  | .wrPersistent5 _ _ _ => "WR.PERSISTENT5"
  | .rdDebug _ _ => "RD.DEBUG"
  | .wrDebug _ _ _ => "WR.DEBUG"
  | .rdVersion _ _ => "RD.VERSION"
  | .wrVersion _ _ _ => "WR.VERSION"
  | .rdBad _ _ _ => "RD.BAD"
  | .wrBad _ _ _ _ => "WR.BAD"

/-! ## The host's entry: one number for the command word and the write value (log 18) -/

/-- The command word and the write value of a number whose low 16 bits are `CW` and whose bits 47 to 16 are
`wdata`; bits of `w` at and above `nbits` count as 0. -/
def wordsOfTable (nbits w : Nat) : CommandWord × Word :=
  let v := w % 2 ^ nbits
  (BitVec.ofNat 16 v, BitVec.ofNat 32 (v / 2 ^ 16))

/-- The operation the decoder reads from an opcode-table word. -/
def decodeTableWord (nbits w : Nat) : Option Instr :=
  let cw := wordsOfTable nbits w
  some (decode cw.1 cw.2)

end Sys2Proof
end

