-- ==== Sys2Proof/Machine/Operands.lean ====
section
/-! DEFINITION. The operand forms of an operation: the access width (spec 30_encoding.md R54), the addressed lanes
(R53, 20_memory.md R34, R36) and the sub-word merge (R55, R56). -/

namespace Sys2Proof.Machine

/-- The access width of a `size` encoding; the reserved 0b11 is treated as 4 bytes (R54, log 7). -/
def widthOf (size : Size) : Width :=
  match size.toNat with
  | 0 => .byte
  | 1 => .half
  | _ => .word

/-- The `size` encoding of a width (R50). -/
def sizeOf (w : Width) : Size :=
  match w with
  | .byte => 0
  | .half => 1
  | .word => 2

/-- The number of bytes of a width (R6). -/
def widthBytes (w : Width) : Nat :=
  match w with
  | .byte => 1
  | .half => 2
  | .word => 4

/-- `m` of R55: the bits of the write value an access uses, right-justified (R56). -/
def valueMask (w : Width) : Word :=
  match w with
  | .byte => 0x000000FF
  | .half => 0x0000FFFF
  | .word => 0xFFFFFFFF

/-- `sh` of R55: the position of the addressed lanes. `sub[3:2]` is ignored, and so are the bits below the width
(R36, R53). -/
def laneShift (w : Width) (sub : SubOffset) : Nat :=
  match w with
  | .byte => 8 * (sub.extractLsb' 0 2).toNat
  | .half => 16 * (sub.extractLsb' 1 1).toNat
  | .word => 0

/-- `merge` (R55): the new content of a cell before any side effect. -/
def merge (old : Word) (sub : SubOffset) (size : Size) (value : Word) : Word :=
  let sh := laneShift (widthOf size) sub
  let m := valueMask (widthOf size)
  (old &&& ~~~(m <<< sh)) ||| ((value &&& m) <<< sh)

/-- Byte lane `k` of a cell: bits `8k+7` down to `8k` (R34). -/
def lane (v : Word) (k : Nat) : Byte := v.extractLsb' (8 * k) 8

/-- The first lane an access addresses (R36, R53). -/
def firstLane (size : Size) (sub : SubOffset) : Nat :=
  match widthOf size with
  | .byte => sub.toNat % 4
  | .half => 2 * (sub.toNat / 2 % 2)
  | .word => 0

/-- Lane `k` is one of the lanes an access addresses (R36, R53). -/
def addressesLane (size : Size) (sub : SubOffset) (k : Nat) : Bool :=
  firstLane size sub <= k && k < firstLane size sub + widthBytes (widthOf size)

end Sys2Proof.Machine
end

