-- ==== Sys2Proof/Machine/State.lean ====
section
/-! DEFINITION. The state of the block as plain data (spec 10_state.md R10, R11, R22), its outputs and its inputs at the
port (R27, 30_encoding.md R50), and reset (R24). -/

namespace Sys2Proof.Machine

/-- The direction of an operation (R50 `we`, R136). -/
inductive Dir where
  | read | write
deriving DecidableEq, Repr

/-- One BadOffset report: the direction and the byte offset exactly as presented, all 13 bits (R136). -/
structure Report where
  /-- the direction of the offending operation (`bad_we`) -/
  dir : Dir
  /-- the offset as presented (`bad_addr`) -/
  addr : Offset
deriving DecidableEq, Repr

/-- The Response of an operation (R50): `report` is the strobe `bad` with `bad_we` and `bad_addr`, whose values are
stated only while `bad` = 1 (log 5). -/
structure Response where
  /-- the read result, 0 whenever there is none (R131) -/
  rdata : Word
  /-- the report of this cycle, if the operation is a BadOffset -/
  report : Option Report
deriving DecidableEq, Repr

/-- The output signals of the port (R50). `report` carries `bad_we` and `bad_addr`, which have a stated value only
while `bad` = 1 (log 5). -/
structure PortOut where
  /-- the read result, or 0 -/
  rdata : Word
  /-- 1 for the cycle of a BadOffset operation -/
  bad : Bool
  /-- `bad_we` and `bad_addr` while `bad` = 1 -/
  report : Option Report
  /-- the interrupt output -/
  irq : Bool
deriving DecidableEq, Repr

/-- A wall-clock sample, both components taken at the same instant (R100). -/
structure Sample where
  /-- milliseconds within the current second -/
  nowMs : Word
  /-- seconds, the low 32 bits of the host's count -/
  nowSec : Word
deriving DecidableEq, Repr

/-- The input signals of the port at one rising edge of `clk` (R50). -/
structure PortIn where
  /-- reset is asserted: no operation is performed (R151) -/
  rst : Bool
  /-- an operation is presented; when 0 the state holds -/
  req : Bool
  /-- 0 read, 1 write -/
  we : Bool
  /-- the encoded access width -/
  size : Size
  /-- the byte offset -/
  addr : Offset
  /-- the write value, right-justified -/
  wdata : Word
  /-- `now_ms` and `now_sec` -/
  sample : Sample
deriving DecidableEq, Repr

/-- The RegisterFile `x`: one 32-bit cell per defined index, in index order (R10, R11, R12). -/
structure RegFile where
  ctrl : Word
  stat : Word
  milliseconds : Word
  seconds : Word
  alarm : Word
  watchdog : Word
  persistent0 : Word
  persistent1 : Word
  persistent2 : Word
  persistent3 : Word
  persistent4 : Word
  persistent5 : Word
  debug : Word
  version : Word
deriving DecidableEq, Repr

/-- The whole state of the block (R10: `regs`, `baseMs`, `baseSec`), the outputs a model keeps (R27, R136: `trace`;
R50: `resp`), and the model's own fields for the inputs (R27, logs 1 and 3: `sample`, `inputs`). -/
structure State where
  /-- the fourteen cells `x[0]` to `x[13]` -/
  regs : RegFile
  /-- `base_ms` -/
  baseMs : Word
  /-- `base_sec` -/
  baseSec : Word
  /-- the BadOffset reports emitted so far, oldest first -/
  trace : List Report
  /-- the response of the latest cycle -/
  resp : Response
  /-- the wall-clock sample of the cycle in progress -/
  sample : Sample
  /-- the cycles the bus master has still to present, the next one first -/
  inputs : List PortIn
deriving DecidableEq, Repr

/-- Why the machine could stop with a fault. There is no reason: BadOffset is logged and the operation completes
(R137), and "Nothing in the block maps to `fault` or `stuck`" (93_implementation_defined.md); log 15. -/
inductive Fault where
deriving DecidableEq, Repr

/-- Why the model could refuse. -/
inductive Refusal where
  /-- Raised by `exec` for an instruction that has no meaning yet: no arm does so in this model. Safe. -/
  | notModelled (mnemonic : String)
deriving DecidableEq, Repr

/-- The cells after reset (R11, R24). -/
def RegFile.reset : RegFile where
  ctrl := 0xC0000000
  stat := 0xE80F0000
  milliseconds := 0
  seconds := 0
  alarm := 0
  watchdog := 0
  persistent0 := 0
  persistent1 := 0
  persistent2 := 0
  persistent3 := 0
  persistent4 := 0
  persistent5 := 0
  debug := 0
  version := 0x02000000

/-- The machine right after reset (R24, R150): both bases 0, the report trace empty, no output asserted. The sample
lines read 0 (DESIGN CHOICE, log 3) and no cycle is pending (DESIGN CHOICE, log 1). -/
def State.reset : State where
  regs := RegFile.reset
  baseMs := 0
  baseSec := 0
  trace := []
  resp := ⟨0, none⟩
  sample := ⟨0, 0⟩
  inputs := []

end Sys2Proof.Machine
end

