-- ==== Sys2Proof/Machine/Ops.lean ====
section
/-! DEFINITION. The named operations over the state: the storage primitives (spec 40_register_file.md R70, R71), the
TimeBase functions (41_timebase.md R101 to R103), the response (30_encoding.md R50, R131), raising BadOffset
(60_exceptions.md R136, R137) and reset (70_reset_and_hazards.md R150). -/

namespace Sys2Proof.Machine

/-- The outcome of an operation or of a step. -/
abbrev Result := Host.Outcome State Fault Refusal

/-! ## The RegisterFile (R70, R71) -/

/-- `get(i)`, written `x[i]` (R70). -/
def RegFile.get (x : RegFile) : Reg → Word
  | .ctrl => x.ctrl
  | .stat => x.stat
  | .milliseconds => x.milliseconds
  | .seconds => x.seconds
  | .alarm => x.alarm
  | .watchdog => x.watchdog
  | .persistent0 => x.persistent0
  | .persistent1 => x.persistent1
  | .persistent2 => x.persistent2
  | .persistent3 => x.persistent3
  | .persistent4 => x.persistent4
  | .persistent5 => x.persistent5
  | .debug => x.debug
  | .version => x.version

/-- `set(i, v)`, written `x[i] <- v` (R71). -/
def RegFile.set (x : RegFile) (r : Reg) (v : Word) : RegFile :=
  match r with
  | .ctrl => { x with ctrl := v }
  | .stat => { x with stat := v }
  | .milliseconds => { x with milliseconds := v }
  | .seconds => { x with seconds := v }
  | .alarm => { x with alarm := v }
  | .watchdog => { x with watchdog := v }
  | .persistent0 => { x with persistent0 := v }
  | .persistent1 => { x with persistent1 := v }
  | .persistent2 => { x with persistent2 := v }
  | .persistent3 => { x with persistent3 := v }
  | .persistent4 => { x with persistent4 := v }
  | .persistent5 => { x with persistent5 := v }
  | .debug => { x with debug := v }
  | .version => { x with version := v }

/-- The RegisterFile as the array `x[0..13]` of R10, in index order. -/
def RegFile.cells (x : RegFile) : List Word :=
  [x.ctrl, x.stat, x.milliseconds, x.seconds, x.alarm, x.watchdog,
   x.persistent0, x.persistent1, x.persistent2, x.persistent3, x.persistent4, x.persistent5, x.debug, x.version]

/-- The RegisterFile of an array of cells; an index the array does not reach reads as 0 (never used: the arrays of
this model have fourteen cells). -/
def RegFile.ofCells (c : List Word) : RegFile where
  ctrl := c.getD 0 0
  stat := c.getD 1 0
  milliseconds := c.getD 2 0
  seconds := c.getD 3 0
  alarm := c.getD 4 0
  watchdog := c.getD 5 0
  persistent0 := c.getD 6 0
  persistent1 := c.getD 7 0
  persistent2 := c.getD 8 0
  persistent3 := c.getD 9 0
  persistent4 := c.getD 10 0
  persistent5 := c.getD 11 0
  debug := c.getD 12 0
  version := c.getD 13 0

/-- The content of a cell (R70). -/
def State.get (s : State) (r : Reg) : Word := s.regs.get r

/-- The state with one cell replaced (R71). -/
def State.set (s : State) (r : Reg) (v : Word) : State := { s with regs := s.regs.set r v }

/-- The stored byte behind a byte offset: lane `offset[1:0]` of the cell the offset selects, `none` where it selects
no register (R31, R34). -/
def State.storedByte (s : State) (a : Offset) : Option Byte :=
  (regOfIdx (a.extractLsb' 4 9)).map fun r => lane (s.get r) (a.toNat % 4)

/-! ## The response (R50, R131) -/

/-- The operation completes with read data `v` and no report. -/
def State.respond (s : State) (v : Word) : State := { s with resp := ⟨v, none⟩ }

/-- A cycle without an operation: the state holds and no output is asserted (R50, R131). -/
def State.hold (s : State) : State := s.respond 0

/-- The interrupt output: constant 0 (R141). -/
def irq (_s : State) : Bool := false

/-! ## The TimeBase (R101 to R103) -/

/-- `refresh` (R101): the two live values from the sample and the bases; it changes nothing. -/
def State.refresh (s : State) : Word × Word :=
  (s.sample.nowMs - s.baseMs, s.sample.nowSec - s.baseSec)

/-- Both refreshed values stored in their cells (R104, R105). -/
def State.storeRefreshed (s : State) : State :=
  (s.set .milliseconds s.refresh.1).set .seconds s.refresh.2

/-- `rebase_ms` (R102, log 12). -/
def State.rebaseMs (s : State) (v : Word) : State := { s with baseMs := s.sample.nowMs - v }

/-- `rebase_sec` (R103, log 12). -/
def State.rebaseSec (s : State) (v : Word) : State := { s with baseSec := s.sample.nowSec - v }

/-! ## BadOffset: the block's one event (R135 to R138). Nothing is saved, no control is transferred, and there is no
return from it (R137, R142). -/

/-- `raise BadOffset(dir, addr)` (R136): one report at the end of the trace and on the port in this cycle. The
operation then completes with `rdata` = 0 (R128, R129, R131). -/
def raiseBadOffset (dir : Dir) (addr : Offset) (s : State) : State :=
  { s with trace := s.trace ++ [⟨dir, addr⟩], resp := ⟨0, some ⟨dir, addr⟩⟩ }

/-! ## Reset (R150 to R152) -/

/-- What a cycle with `rst` = 1 does: every field is as after reset, the report trace empty (R136, log 4); the cycles
still to come are the bus master's and stay. -/
def applyRst (s : State) : State := { State.reset with inputs := s.inputs }

/-! ## Shared meanings of the operations -/

/-- A read of a register whose value is the stored cell (R72, R116). -/
def readStored (r : Reg) (s : State) : Result := .next (s.respond (s.get r))

/-- A write of a plain-storage register (R72). -/
def writeStored (r : Reg) (size : Size) (sub : SubOffset) (wdata : Word) (s : State) : Result :=
  .next ((s.set r (merge (s.get r) sub size wdata)).respond 0)

end Sys2Proof.Machine
end

