-- ==== Sys2Proof/Machine/Access.lean ====
section
/-! DEFINITION. The out-of-range operations (spec 43_register_access.md R128, R129), and the two dispatch functions
`read` and `write` as R125 and R126 write them, over the array `x[0..13]`: a second account of the whole block, which
the statements compare with the operations. -/

namespace Sys2Proof.Machine

/-- RD.BAD (R128): one report with the full offset as presented, `rdata` = 0, no cell and no base changed. -/
def execRdBad (idx : Index) (_size : Size) (sub : SubOffset) (s : State) : Result :=
  .next (raiseBadOffset .read (idx ++ sub) s)

/-- WR.BAD (R129): one report, the value discarded, nothing changed. -/
def execWrBad (idx : Index) (_size : Size) (sub : SubOffset) (_wdata : Word) (s : State) : Result :=
  .next (raiseBadOffset .write (idx ++ sub) s)

/-- `x[i]` over the array of R10. -/
def cellAt (s : State) (i : Nat) : Word := s.regs.cells.getD i 0

/-- `x[i] <- v` over the array of R10. -/
def setCellAt (s : State) (i : Nat) (v : Word) : State :=
  { s with regs := RegFile.ofCells (s.regs.cells.set i v) }

/-- `read(addr, size)` (R125); `size` and `addr[3:0]` do not appear in it. -/
def accessRead (addr : Offset) (s : State) : State :=
  let idx := (addr >>> 4).toNat
  if idx ≤ 13 then
    if idx = 2 ∨ idx = 3 then
      let msVal := s.sample.nowMs - s.baseMs
      let secVal := s.sample.nowSec - s.baseSec
      let s' := setCellAt (setCellAt s 2 msVal) 3 secVal
      { s' with resp := ⟨if idx = 2 then msVal else secVal, none⟩ }
    else
      { s with resp := ⟨cellAt s idx, none⟩ }
  else
    { s with trace := s.trace ++ [⟨.read, addr⟩], resp := ⟨0, some ⟨.read, addr⟩⟩ }

/-- `write(addr, size, wdata)` (R126), in the order of R127: the merged value is stored, then the side effect runs. -/
def accessWrite (addr : Offset) (size : Size) (wdata : Word) (s : State) : State :=
  let idx := (addr >>> 4).toNat
  let sub : SubOffset := addr.setWidth 4
  if idx ≤ 13 then
    let old := cellAt s idx
    let new := merge old sub size wdata
    let s' := setCellAt { s with resp := ⟨0, none⟩ } idx new
    if idx = 2 then { s' with baseMs := s.sample.nowMs - new }
    else if idx = 3 then { s' with baseSec := s.sample.nowSec - new }
    else if idx = 0 then setCellAt s' 0 (applyWrite old new)
    else s'
  else
    { s with trace := s.trace ++ [⟨.write, addr⟩], resp := ⟨0, some ⟨.write, addr⟩⟩ }

end Sys2Proof.Machine
end

