-- ==== Sys2Proof/Machine/Control.lean ====
section
/-! DEFINITION. The CTRL register (spec 42_control_latch.md R116, R117). -/

namespace Sys2Proof.Machine

/-- RD.CTRL (R116): plain, and it clears neither bit 30 nor bit 31. -/
def execRdCtrl (_size : Size) (_sub : SubOffset) (s : State) : Result := readStored .ctrl s

/-- WR.CTRL (R117): the edge is judged on the merged value against the content before this write; the cell is stored
once, since nothing can see the intermediate value (R127). -/
def execWrCtrl (size : Size) (sub : SubOffset) (wdata : Word) (s : State) : Result :=
  let old := s.get .ctrl
  let new := merge old sub size wdata
  .next ((s.set .ctrl (applyWrite old new)).respond 0)

end Sys2Proof.Machine
end

