-- ==== Sys2Proof/Machine/Storage.lean ====
section
/-! DEFINITION. The plain-storage registers (spec 40_register_file.md R72 to R94): a read returns the whole cell for
every `size` and `sub` and changes nothing; a write merges and changes nothing else. -/

namespace Sys2Proof.Machine

/-- RD.STAT (R73). -/
def execRdStat (_size : Size) (_sub : SubOffset) (s : State) : Result := readStored .stat s

/-- WR.STAT (R74). -/
def execWrStat (size : Size) (sub : SubOffset) (wdata : Word) (s : State) : Result :=
  writeStored .stat size sub wdata s

/-- RD.ALARM (R75). -/
def execRdAlarm (_size : Size) (_sub : SubOffset) (s : State) : Result := readStored .alarm s

/-- WR.ALARM (R76). -/
def execWrAlarm (size : Size) (sub : SubOffset) (wdata : Word) (s : State) : Result :=
  writeStored .alarm size sub wdata s

/-- RD.WATCHDOG (R77). -/
def execRdWatchdog (_size : Size) (_sub : SubOffset) (s : State) : Result := readStored .watchdog s

/-- WR.WATCHDOG (R78). -/
def execWrWatchdog (size : Size) (sub : SubOffset) (wdata : Word) (s : State) : Result :=
  writeStored .watchdog size sub wdata s

/-- RD.PERSISTENT0 (R79). -/
def execRdPersistent0 (_size : Size) (_sub : SubOffset) (s : State) : Result := readStored .persistent0 s

/-- WR.PERSISTENT0 (R80). -/
def execWrPersistent0 (size : Size) (sub : SubOffset) (wdata : Word) (s : State) : Result :=
  writeStored .persistent0 size sub wdata s

/-- RD.PERSISTENT1 (R81). -/
def execRdPersistent1 (_size : Size) (_sub : SubOffset) (s : State) : Result := readStored .persistent1 s

/-- WR.PERSISTENT1 (R82). -/
def execWrPersistent1 (size : Size) (sub : SubOffset) (wdata : Word) (s : State) : Result :=
  writeStored .persistent1 size sub wdata s

/-- RD.PERSISTENT2 (R83). -/
def execRdPersistent2 (_size : Size) (_sub : SubOffset) (s : State) : Result := readStored .persistent2 s

/-- WR.PERSISTENT2 (R84). -/
def execWrPersistent2 (size : Size) (sub : SubOffset) (wdata : Word) (s : State) : Result :=
  writeStored .persistent2 size sub wdata s

/-- RD.PERSISTENT3 (R85). -/
def execRdPersistent3 (_size : Size) (_sub : SubOffset) (s : State) : Result := readStored .persistent3 s

/-- WR.PERSISTENT3 (R86). -/
def execWrPersistent3 (size : Size) (sub : SubOffset) (wdata : Word) (s : State) : Result :=
  writeStored .persistent3 size sub wdata s

/-- RD.PERSISTENT4 (R87). -/
def execRdPersistent4 (_size : Size) (_sub : SubOffset) (s : State) : Result := readStored .persistent4 s

/-- WR.PERSISTENT4 (R88). -/
def execWrPersistent4 (size : Size) (sub : SubOffset) (wdata : Word) (s : State) : Result :=
  writeStored .persistent4 size sub wdata s

/-- RD.PERSISTENT5 (R89). -/
def execRdPersistent5 (_size : Size) (_sub : SubOffset) (s : State) : Result := readStored .persistent5 s

/-- WR.PERSISTENT5 (R90). -/
def execWrPersistent5 (size : Size) (sub : SubOffset) (wdata : Word) (s : State) : Result :=
  writeStored .persistent5 size sub wdata s

/-- RD.DEBUG (R91). -/
def execRdDebug (_size : Size) (_sub : SubOffset) (s : State) : Result := readStored .debug s

/-- WR.DEBUG (R92). -/
def execWrDebug (size : Size) (sub : SubOffset) (wdata : Word) (s : State) : Result :=
  writeStored .debug size sub wdata s

/-- RD.VERSION (R93). -/
def execRdVersion (_size : Size) (_sub : SubOffset) (s : State) : Result := readStored .version s

/-- WR.VERSION (R94). -/
def execWrVersion (size : Size) (sub : SubOffset) (wdata : Word) (s : State) : Result :=
  writeStored .version size sub wdata s

end Sys2Proof.Machine
end

