-- ==== Sys2Proof/Machine/TimeBase.lean ====
section
/-! DEFINITION. The live registers (spec 41_timebase.md R104 to R107). -/

namespace Sys2Proof.Machine

/-- RD.MILLISECONDS (R104): both cells are refreshed, the millisecond value is returned. -/
def execRdMilliseconds (_size : Size) (_sub : SubOffset) (s : State) : Result :=
  .next (s.storeRefreshed.respond s.refresh.1)

/-- RD.SECONDS (R105): both cells are refreshed, the seconds value is returned. -/
def execRdSeconds (_size : Size) (_sub : SubOffset) (s : State) : Result :=
  .next (s.storeRefreshed.respond s.refresh.2)

/-- WR.MILLISECONDS (R106): the merge is into the STORED cell, no refresh comes first, and the base moves so that the
register reads the merged value at this sample. -/
def execWrMilliseconds (size : Size) (sub : SubOffset) (wdata : Word) (s : State) : Result :=
  let v := merge (s.get .milliseconds) sub size wdata
  .next (((s.set .milliseconds v).rebaseMs v).respond 0)

/-- WR.SECONDS (R107), as R106 with the seconds cell and base. -/
def execWrSeconds (size : Size) (sub : SubOffset) (wdata : Word) (s : State) : Result :=
  let v := merge (s.get .seconds) sub size wdata
  .next (((s.set .seconds v).rebaseSec v).respond 0)

end Sys2Proof.Machine
end

