-- ==== Sys2Proof/Machine/Dispatch.lean ====
section
/-! DEFINITION. One arm per operation, each one call of its meaning. -/

namespace Sys2Proof.Machine

def exec (i : Instr) (s : State) : Host.Outcome State Fault Refusal :=
  match i with
  | .rdCtrl size sub => Sys2Proof.Machine.execRdCtrl size sub s
  | .wrCtrl size sub wdata => Sys2Proof.Machine.execWrCtrl size sub wdata s
  | .rdStat size sub => Sys2Proof.Machine.execRdStat size sub s
  | .wrStat size sub wdata => Sys2Proof.Machine.execWrStat size sub wdata s
  | .rdMilliseconds size sub => Sys2Proof.Machine.execRdMilliseconds size sub s
  | .wrMilliseconds size sub wdata => Sys2Proof.Machine.execWrMilliseconds size sub wdata s
  | .rdSeconds size sub => Sys2Proof.Machine.execRdSeconds size sub s
  | .wrSeconds size sub wdata => Sys2Proof.Machine.execWrSeconds size sub wdata s
  | .rdAlarm size sub => Sys2Proof.Machine.execRdAlarm size sub s
  | .wrAlarm size sub wdata => Sys2Proof.Machine.execWrAlarm size sub wdata s
  | .rdWatchdog size sub => Sys2Proof.Machine.execRdWatchdog size sub s
  | .wrWatchdog size sub wdata => Sys2Proof.Machine.execWrWatchdog size sub wdata s
  | .rdPersistent0 size sub => Sys2Proof.Machine.execRdPersistent0 size sub s
  | .wrPersistent0 size sub wdata => Sys2Proof.Machine.execWrPersistent0 size sub wdata s
  | .rdPersistent1 size sub => Sys2Proof.Machine.execRdPersistent1 size sub s
  | .wrPersistent1 size sub wdata => Sys2Proof.Machine.execWrPersistent1 size sub wdata s
  | .rdPersistent2 size sub => Sys2Proof.Machine.execRdPersistent2 size sub s
  | .wrPersistent2 size sub wdata => Sys2Proof.Machine.execWrPersistent2 size sub wdata s
  | .rdPersistent3 size sub => Sys2Proof.Machine.execRdPersistent3 size sub s
  | .wrPersistent3 size sub wdata => Sys2Proof.Machine.execWrPersistent3 size sub wdata s
  | .rdPersistent4 size sub => Sys2Proof.Machine.execRdPersistent4 size sub s
  | .wrPersistent4 size sub wdata => Sys2Proof.Machine.execWrPersistent4 size sub wdata s
  | .rdPersistent5 size sub => Sys2Proof.Machine.execRdPersistent5 size sub s
  | .wrPersistent5 size sub wdata => Sys2Proof.Machine.execWrPersistent5 size sub wdata s
  | .rdDebug size sub => Sys2Proof.Machine.execRdDebug size sub s
  | .wrDebug size sub wdata => Sys2Proof.Machine.execWrDebug size sub wdata s
  | .rdVersion size sub => Sys2Proof.Machine.execRdVersion size sub s
  | .wrVersion size sub wdata => Sys2Proof.Machine.execWrVersion size sub wdata s
  | .rdBad idx size sub => Sys2Proof.Machine.execRdBad idx size sub s
  | .wrBad idx size sub wdata => Sys2Proof.Machine.execWrBad idx size sub wdata s

end Sys2Proof.Machine
end

