-- ==== Sys2Proof/Machine/Port.lean ====
section
/-! DEFINITION. The port (spec 30_encoding.md R50): packing its signals into the command word (R51), fetching the
operation of a cycle, and what one clock cycle does. -/

namespace Sys2Proof.Machine

/-- `CW = we ++ size ++ addr` of the signals of a cycle (R51). -/
def PortIn.cw (c : PortIn) : CommandWord := BitVec.ofBool c.we ++ c.size ++ c.addr

/-- The operation a cycle presents. -/
def PortIn.operation (c : PortIn) : Instr := decode c.cw c.wdata

/-- A cycle performs an operation: `req` = 1 and `rst` = 0 (R50, R151). -/
def PortIn.performs (c : PortIn) : Bool := c.req && !c.rst

/-- The cycle that presents the operation of a command word and a write value, at a sample (R50, R51). -/
def PortIn.ofWords (cw : CommandWord) (wdata : Word) (sample : Sample) : PortIn where
  rst := false
  req := true
  we := cwWe cw
  size := cwSize cw
  addr := cw.extractLsb' 0 13
  wdata := wdata
  sample := sample

/-- One clock cycle: reset wins (R151); without `req` the state holds (R50); otherwise the presented operation is
performed with the cycle's own sample (R100). -/
def clockCycle (c : PortIn) (s : State) : Result :=
  if c.rst then .next (applyRst s)
  else if c.req then exec c.operation { s with sample := c.sample }
  else .next { s with sample := c.sample }.hold

/-- The outputs the port shows in a state (R50, R136, R141). -/
def portOut (s : State) : PortOut := ⟨s.resp.rdata, s.resp.report.isSome, s.resp.report, irq s⟩

/-- The next cycle presents the operation of an opcode-table word, at the sample the lines now carry (log 18). -/
def presentTableWord (s : State) (nbits w : Nat) : State :=
  let cw := wordsOfTable nbits w
  { s with inputs := PortIn.ofWords cw.1 cw.2 s.sample :: s.inputs }

end Sys2Proof.Machine
end

