-- ==== Sys2Proof/Machine/Step.lean ====
section
/-! DEFINITION. One step is one rising edge of `clk` (spec 30_encoding.md R50, 70_reset_and_hazards.md R164). -/

namespace Sys2Proof.Machine

/-- The next pending cycle happens; with none pending the bus master presents nothing and the state holds (log 2). -/
def step (s : State) : Host.Outcome State Fault Refusal :=
  match s.inputs with
  | [] => .next s.hold
  | c :: rest => clockCycle c { s with inputs := rest }

/-- The state whose next step performs the operation of an opcode-table word (log 1, log 18). -/
def State.withFetchWord (s : State) (nbits w : Nat) : State := presentTableWord s nbits w

end Sys2Proof.Machine
end

