-- ==== Sys2Proof/Machine/Platform.lean ====
section
/-! DEFINITION. What the platform and the host supply, as far as the spec states it: the bus decoder that owns
`WINDOW_BASE` (spec 20_memory.md R33, R46) and the wall-clock sample (41_timebase.md R100). No operation reads this
file: the block sees only the offset and the sample. -/

namespace Sys2Proof.Machine

/-- The offset at which a bus address reaches the block, `none` where the decoder does not select it (R33, R46,
log 9). -/
def busOffset (a : Nat) : Option Offset :=
  if Config.windowBase ≤ a ∧ a < Config.windowBase + Config.windowSize then
    some (BitVec.ofNat 13 (a - Config.windowBase))
  else none

/-- The sample of an instant, given in milliseconds of the host's clock: the milliseconds within the current second,
and the low 32 bits of the seconds since `EPOCH` (R100, D12, log 9). -/
def hostSample (t : Int) : Sample where
  nowMs := BitVec.ofInt 32 (t % 1000)
  nowSec := BitVec.ofInt 32 (t / 1000 - Config.epoch)

end Sys2Proof.Machine
end

