-- ==== Sys2Proof/Safety.lean ====
section
/-! DEFINITION. The terms the claims use: the host's duty, which register an operation is for, which cycles write a
register, which report a cycle emits, runs over a list of cycles, and the consistency of the reports. -/

namespace Sys2Proof

/-- The register an operation is for, `none` for RD.BAD and WR.BAD (spec 30_encoding.md R57). -/
def Instr.target : Instr → Option Reg
  | .rdCtrl _ _ => some .ctrl
  | .wrCtrl _ _ _ => some .ctrl
  | .rdStat _ _ => some .stat
  | .wrStat _ _ _ => some .stat
  | .rdMilliseconds _ _ => some .milliseconds
  | .wrMilliseconds _ _ _ => some .milliseconds
  | .rdSeconds _ _ => some .seconds
  | .wrSeconds _ _ _ => some .seconds
  | .rdAlarm _ _ => some .alarm
  | .wrAlarm _ _ _ => some .alarm
  | .rdWatchdog _ _ => some .watchdog
  | .wrWatchdog _ _ _ => some .watchdog
  | .rdPersistent0 _ _ => some .persistent0
  | .wrPersistent0 _ _ _ => some .persistent0
  | .rdPersistent1 _ _ => some .persistent1
  | .wrPersistent1 _ _ _ => some .persistent1
  | .rdPersistent2 _ _ => some .persistent2
  | .wrPersistent2 _ _ _ => some .persistent2
  | .rdPersistent3 _ _ => some .persistent3
  | .wrPersistent3 _ _ _ => some .persistent3
  | .rdPersistent4 _ _ => some .persistent4
  | .wrPersistent4 _ _ _ => some .persistent4
  | .rdPersistent5 _ _ => some .persistent5
  | .wrPersistent5 _ _ _ => some .persistent5
  | .rdDebug _ _ => some .debug
  | .wrDebug _ _ _ => some .debug
  | .rdVersion _ _ => some .version
  | .wrVersion _ _ _ => some .version
  | .rdBad _ _ _ => none
  | .wrBad _ _ _ _ => none

/-- The operation is a write (R50 `we`). -/
def Instr.isWrite : Instr → Bool
  | .rdCtrl _ _ => false
  | .wrCtrl _ _ _ => true
  | .rdStat _ _ => false
  | .wrStat _ _ _ => true
  | .rdMilliseconds _ _ => false
  | .wrMilliseconds _ _ _ => true
  | .rdSeconds _ _ => false
  | .wrSeconds _ _ _ => true
  | .rdAlarm _ _ => false
  | .wrAlarm _ _ _ => true
  | .rdWatchdog _ _ => false
  | .wrWatchdog _ _ _ => true
  | .rdPersistent0 _ _ => false
  | .wrPersistent0 _ _ _ => true
  | .rdPersistent1 _ _ => false
  | .wrPersistent1 _ _ _ => true
  | .rdPersistent2 _ _ => false
  | .wrPersistent2 _ _ _ => true
  | .rdPersistent3 _ _ => false
  | .wrPersistent3 _ _ _ => true
  | .rdPersistent4 _ _ => false
  | .wrPersistent4 _ _ _ => true
  | .rdPersistent5 _ _ => false
  | .wrPersistent5 _ _ _ => true
  | .rdDebug _ _ => false
  | .wrDebug _ _ _ => true
  | .rdVersion _ _ => false
  | .wrVersion _ _ _ => true
  | .rdBad _ _ _ => false
  | .wrBad _ _ _ _ => true

/-- MILLISECONDS or SECONDS: the live registers (00_scope.md glossary). -/
def Reg.isLive (r : Reg) : Bool := r == .milliseconds || r == .seconds

namespace Machine

/-- The host's duty on a sample: `now_ms` in 0..999 (41_timebase.md R100, U7). The block does not check it. -/
def Sample.hostDuty (q : Sample) : Bool := q.nowMs.toNat < 1000

/-- The cycle of a read of register `r` (R50, R57). -/
def readCycle (r : Reg) (size : Size) (sub : SubOffset) (q : Sample) : PortIn :=
  ⟨false, true, false, size, r.idx ++ sub, 0, q⟩

/-- The cycle of a write of register `r` (R50, R57). -/
def writeCycle (r : Reg) (size : Size) (sub : SubOffset) (wdata : Word) (q : Sample) : PortIn :=
  ⟨false, true, true, size, r.idx ++ sub, wdata, q⟩

/-- The cycle performs a write whose offset selects `r` (R52, R57). -/
def PortIn.writes (c : PortIn) (r : Reg) : Bool :=
  c.performs && c.we && (c.addr >>> 4).toNat == r.idx.toNat

/-- The cycle is neither a reset nor a write of `r`. -/
def PortIn.leaves (c : PortIn) (r : Reg) : Bool := !c.rst && !c.writes r

/-- The report a cycle emits: one, with its direction and its offset as presented, when it performs an operation
whose index is 14 or more (60_exceptions.md R135, R136). -/
def PortIn.badReport (c : PortIn) : Option Report :=
  if c.performs && 14 <= (c.addr >>> 4).toNat then
    some ⟨if c.we then .write else .read, c.addr⟩
  else none

/-- The run over exactly the cycles `cs`, in order, from `s` (20_memory.md R40). -/
def runCycles (cs : List PortIn) (s : State) : Result :=
  Sys2Proof.core.run cs.length { s with inputs := cs }

/-- A function applied to the next state of an outcome. -/
def mapNext (f : State → State) : Result → Result
  | .next t => .next (f t)
  | .fault e => .fault e
  | .refused e => .refused e

/-- Every report is about an offset that selects no register, and a report on the port is the last of the trace and
comes with `rdata` = 0 (R131, R135, R136). -/
def ReportsConsistent (s : State) : Prop :=
  (∀ e ∈ s.trace, 14 ≤ (e.addr >>> 4).toNat) ∧
  (∀ e, s.resp.report = some e → s.trace.getLast? = some e ∧ s.resp.rdata = 0)

end Machine

end Sys2Proof
end

