-- ==== Sys2Proof/Certificates/Slice0/Obligations.lean ====
section
/-! DEFINITION. The statements for the provers. Each docstring says what the statement says; OBLIGATIONS.json holds its
rules. -/

open Sys2Proof Sys2Proof.Machine

/-- For every well-formed operation i, decoding the command word and write value of encode i gives i. All thirty
constructors, every size, sub, index and write value. -/
def Obligations.DecodeOfEncodeIsTheOperation : Prop :=
  ∀ i : Instr, i.wf = true → decode (encode i).1 (encode i).2 = i

/-- For every command word and write value, decode gives a well-formed operation, and encoding it gives the same
command word, with the write value kept on a write and 0 on a read (which ignores it). -/
def Obligations.EncodeOfDecodeKeepsEveryBit : Prop :=
  ∀ (cw : CommandWord) (wd : Word),
    (decode cw wd).wf = true ∧ encode (decode cw wd) = (cw, if cwWe cw then wd else 0)

/-- For every command word, exactly one of the forty rows of the opcode table selects it (cw & mask = match), and
that row's mnemonic is the mnemonic of the operation the decoder gives. -/
def Obligations.EveryCommandWordMatchesExactlyOneRow : Prop :=
  ∀ (cw : CommandWord) (wd : Word),
    ∃ row, opcodeTable.filter (fun r => r.selects cw) = [row] ∧ row.mnemonic = (decode cw wd).mnemonic

/-- For every command word: each defined operation is decoded exactly when CW & 0x9FF0 is (we << 15) | (idx << 4) of
its row, with size and sub as operands only (PERSISTENT5 at index 11 is the spec's decision D1, log 11); RD.BAD
and WR.BAD exactly when idx is 14 or more; and the twelve BAD rows of the table are together exactly the words
with idx 14 or more. -/
def Obligations.DirectionAndIndexSelectTheOperation : Prop :=
  ∀ (cw : CommandWord) (wd : Word),
    (cw &&& 0x9FF0 = 0x0000 ↔ decode cw wd = .rdCtrl (cwSize cw) (cwSub cw)) ∧
    (cw &&& 0x9FF0 = 0x8000 ↔ decode cw wd = .wrCtrl (cwSize cw) (cwSub cw) wd) ∧
    (cw &&& 0x9FF0 = 0x0010 ↔ decode cw wd = .rdStat (cwSize cw) (cwSub cw)) ∧
    (cw &&& 0x9FF0 = 0x8010 ↔ decode cw wd = .wrStat (cwSize cw) (cwSub cw) wd) ∧
    (cw &&& 0x9FF0 = 0x0020 ↔ decode cw wd = .rdMilliseconds (cwSize cw) (cwSub cw)) ∧
    (cw &&& 0x9FF0 = 0x8020 ↔ decode cw wd = .wrMilliseconds (cwSize cw) (cwSub cw) wd) ∧
    (cw &&& 0x9FF0 = 0x0030 ↔ decode cw wd = .rdSeconds (cwSize cw) (cwSub cw)) ∧
    (cw &&& 0x9FF0 = 0x8030 ↔ decode cw wd = .wrSeconds (cwSize cw) (cwSub cw) wd) ∧
    (cw &&& 0x9FF0 = 0x0040 ↔ decode cw wd = .rdAlarm (cwSize cw) (cwSub cw)) ∧
    (cw &&& 0x9FF0 = 0x8040 ↔ decode cw wd = .wrAlarm (cwSize cw) (cwSub cw) wd) ∧
    (cw &&& 0x9FF0 = 0x0050 ↔ decode cw wd = .rdWatchdog (cwSize cw) (cwSub cw)) ∧
    (cw &&& 0x9FF0 = 0x8050 ↔ decode cw wd = .wrWatchdog (cwSize cw) (cwSub cw) wd) ∧
    (cw &&& 0x9FF0 = 0x0060 ↔ decode cw wd = .rdPersistent0 (cwSize cw) (cwSub cw)) ∧
    (cw &&& 0x9FF0 = 0x8060 ↔ decode cw wd = .wrPersistent0 (cwSize cw) (cwSub cw) wd) ∧
    (cw &&& 0x9FF0 = 0x0070 ↔ decode cw wd = .rdPersistent1 (cwSize cw) (cwSub cw)) ∧
    (cw &&& 0x9FF0 = 0x8070 ↔ decode cw wd = .wrPersistent1 (cwSize cw) (cwSub cw) wd) ∧
    (cw &&& 0x9FF0 = 0x0080 ↔ decode cw wd = .rdPersistent2 (cwSize cw) (cwSub cw)) ∧
    (cw &&& 0x9FF0 = 0x8080 ↔ decode cw wd = .wrPersistent2 (cwSize cw) (cwSub cw) wd) ∧
    (cw &&& 0x9FF0 = 0x0090 ↔ decode cw wd = .rdPersistent3 (cwSize cw) (cwSub cw)) ∧
    (cw &&& 0x9FF0 = 0x8090 ↔ decode cw wd = .wrPersistent3 (cwSize cw) (cwSub cw) wd) ∧
    (cw &&& 0x9FF0 = 0x00A0 ↔ decode cw wd = .rdPersistent4 (cwSize cw) (cwSub cw)) ∧
    (cw &&& 0x9FF0 = 0x80A0 ↔ decode cw wd = .wrPersistent4 (cwSize cw) (cwSub cw) wd) ∧
    (cw &&& 0x9FF0 = 0x00B0 ↔ decode cw wd = .rdPersistent5 (cwSize cw) (cwSub cw)) ∧
    (cw &&& 0x9FF0 = 0x80B0 ↔ decode cw wd = .wrPersistent5 (cwSize cw) (cwSub cw) wd) ∧
    (cw &&& 0x9FF0 = 0x00C0 ↔ decode cw wd = .rdDebug (cwSize cw) (cwSub cw)) ∧
    (cw &&& 0x9FF0 = 0x80C0 ↔ decode cw wd = .wrDebug (cwSize cw) (cwSub cw) wd) ∧
    (cw &&& 0x9FF0 = 0x00D0 ↔ decode cw wd = .rdVersion (cwSize cw) (cwSub cw)) ∧
    (cw &&& 0x9FF0 = 0x80D0 ↔ decode cw wd = .wrVersion (cwSize cw) (cwSub cw) wd) ∧
    (cwWe cw = false ∧ 14 ≤ (cwIdx cw).toNat ↔ decode cw wd = .rdBad (cwIdx cw) (cwSize cw) (cwSub cw)) ∧
    (cwWe cw = true ∧ 14 ≤ (cwIdx cw).toNat ↔ decode cw wd = .wrBad (cwIdx cw) (cwSize cw) (cwSub cw) wd) ∧
    (badRows.any (fun row => row.selects cw) = true ↔ 14 ≤ (cwIdx cw).toNat)

/-- 0x4000 is RD.CTRL of 4 bytes, 0x000F RD.CTRL (size 1, sub 15), 0x40DF RD.VERSION, 0x40E0 RD.BAD, 0x40B0
RD.PERSISTENT5, 0xDFFF WR.BAD at offset 0x1FFF, 0x8003 WR.CTRL of 1 byte at lane 3, 0xE040 WR.ALARM with the
reserved size. The vectors are the spec's own derivations. -/
def Obligations.CommandWordExamplesDecode : Prop :=
  ∀ wd : Word,
    decode 0x4000 wd = .rdCtrl 2 0 ∧ decode 0x000F wd = .rdCtrl 0 15 ∧ decode 0x40DF wd = .rdVersion 2 15 ∧
    decode 0x40E0 wd = .rdBad 14 2 0 ∧ decode 0x40B0 wd = .rdPersistent5 2 0 ∧
    decode 0xDFFF wd = .wrBad 511 2 15 wd ∧ decode 0x8003 wd = .wrCtrl 0 3 wd ∧ decode 0xE040 wd = .wrAlarm 3 0 wd

/-- When the next pending cycle has rst = 0 and req = 1, the signals pack to the command word we ++ size ++ addr, it
decodes to a well-formed operation, and the step is exec of that operation on the state with the cycle taken off
the pending list and its sample on the sample lines. The pending list is the model's choice (log 1). -/
def Obligations.StepPerformsThePresentedOperation : Prop :=
  ∀ (s : State) (c : PortIn) (rest : List PortIn), s.inputs = c :: rest → c.rst = false → c.req = true →
    c.cw = BitVec.ofBool c.we ++ c.size ++ c.addr ∧
    (decode c.cw c.wdata).wf = true ∧
    step s = exec (decode c.cw c.wdata) { s with inputs := rest, sample := c.sample }

/-- If the decoder reads operation i from an opcode-table word, the next step of s.withFetchWord on that word is
exec i on s itself: nothing else of the state changes. Presenting at the current sample is the model's choice
(log 18). -/
def Obligations.FetchWordRunsTheTableOperation : Prop :=
  ∀ (s : State) (nbits w : Nat) (i : Instr), decodeTableWord nbits w = some i →
    step (s.withFetchWord nbits w) = exec i s

/-- When the next cycle has rst = 0 and req = 0, every cell, base and the trace stay and rdata is 0 with no report,
and the sample lines take that cycle's sample; when no cycle is pending the step does the same but keeps the
sample lines. That rdata is 0 with no report in a cycle without operation is log 5 (DEDUCED), the sample lines
are log 3 and the empty pending list is log 2 (both DESIGN CHOICE). -/
def Obligations.CyclesWithoutOperationHoldTheState : Prop :=
  (∀ (s : State) (c : PortIn) (rest : List PortIn), s.inputs = c :: rest → c.rst = false → c.req = false →
      step s = .next { s with inputs := rest, sample := c.sample, resp := ⟨0, none⟩ }) ∧
    (∀ s : State, s.inputs = [] → step s = .next { s with resp := ⟨0, none⟩ })

/-- After reset CTRL is 0xC0000000, STAT 0xE80F0000, VERSION 0x02000000, every other cell 0, both bases 0, the
report trace empty; the first read of MILLISECONDS returns now_ms and the first read of SECONDS now_sec of its
own sample. -/
def Obligations.ResetStateHoldsTheStatedValues : Prop :=
  State.reset.regs.ctrl = 0xC0000000 ∧ State.reset.regs.stat = 0xE80F0000 ∧
    State.reset.regs.version = 0x02000000 ∧
    (∀ r : Reg, r ≠ .ctrl → r ≠ .stat → r ≠ .version → State.reset.get r = 0) ∧
    State.reset.baseMs = 0 ∧ State.reset.baseSec = 0 ∧ State.reset.trace = [] ∧
    (∀ (q : Sample) (size : Size) (sub : SubOffset),
      (∃ t, exec (.rdMilliseconds size sub) { State.reset with sample := q } = .next t ∧ t.resp.rdata = q.nowMs) ∧
      (∃ t, exec (.rdSeconds size sub) { State.reset with sample := q } = .next t ∧ t.resp.rdata = q.nowSec))

/-- When the next cycle has rst = 1, the step gives the reset state, whatever req, the operation and the sample are,
performs no operation, and only the later pending cycles stay. That the trace is emptied is log 4 (DEDUCED),
that the response is rdata 0 with no report is log 5 (DEDUCED), and that the sample lines read (0, 0) is the
model's choice, log 3 (DESIGN CHOICE). -/
def Obligations.ResetCycleRestoresTheResetState : Prop :=
  ∀ (s : State) (c : PortIn) (rest : List PortIn), s.inputs = c :: rest → c.rst = true →
    step s = .next { State.reset with inputs := rest }

/-- For every state and every list of cycles followed by one with rst = 1, the run completes and ends in the reset
state: no cell, no PERSISTENT register, no base keeps anything. The reset state fixes more than the cells and
bases: the emptied trace is log 4 (DEDUCED), the response, rdata 0 with no report, is log 5 (DEDUCED), and the
sample lines (0, 0) are log 3 (DESIGN CHOICE). -/
def Obligations.NothingSurvivesReset : Prop :=
  ∀ (s : State) (cs : List PortIn) (c : PortIn), c.rst = true → runCycles (cs ++ [c]) s = .next State.reset

/-- For each of the eleven plain-storage registers, every size, sub, write value and state: the read answers the
next state in which rdata is the whole cell and nothing else changed; the write answers the next state in which
that one cell is merge of its old content, rdata is 0 and nothing else changed. No report, no dependence on the
sample, on CTRL or on any other cell. -/
def Obligations.PlainStorageReadsAndMerges : Prop :=
  ∀ (size : Size) (sub : SubOffset) (wdata : Word) (s : State),
    exec (.rdStat size sub) s = .next { s with resp := ⟨s.regs.stat, none⟩ } ∧
    exec (.wrStat size sub wdata) s = .next { s with
      regs := { s.regs with stat := merge s.regs.stat sub size wdata }, resp := ⟨0, none⟩ } ∧
    exec (.rdAlarm size sub) s = .next { s with resp := ⟨s.regs.alarm, none⟩ } ∧
    exec (.wrAlarm size sub wdata) s = .next { s with
      regs := { s.regs with alarm := merge s.regs.alarm sub size wdata }, resp := ⟨0, none⟩ } ∧
    exec (.rdWatchdog size sub) s = .next { s with resp := ⟨s.regs.watchdog, none⟩ } ∧
    exec (.wrWatchdog size sub wdata) s = .next { s with
      regs := { s.regs with watchdog := merge s.regs.watchdog sub size wdata }, resp := ⟨0, none⟩ } ∧
    exec (.rdPersistent0 size sub) s = .next { s with resp := ⟨s.regs.persistent0, none⟩ } ∧
    exec (.wrPersistent0 size sub wdata) s = .next { s with
      regs := { s.regs with persistent0 := merge s.regs.persistent0 sub size wdata }, resp := ⟨0, none⟩ } ∧
    exec (.rdPersistent1 size sub) s = .next { s with resp := ⟨s.regs.persistent1, none⟩ } ∧
    exec (.wrPersistent1 size sub wdata) s = .next { s with
      regs := { s.regs with persistent1 := merge s.regs.persistent1 sub size wdata }, resp := ⟨0, none⟩ } ∧
    exec (.rdPersistent2 size sub) s = .next { s with resp := ⟨s.regs.persistent2, none⟩ } ∧
    exec (.wrPersistent2 size sub wdata) s = .next { s with
      regs := { s.regs with persistent2 := merge s.regs.persistent2 sub size wdata }, resp := ⟨0, none⟩ } ∧
    exec (.rdPersistent3 size sub) s = .next { s with resp := ⟨s.regs.persistent3, none⟩ } ∧
    exec (.wrPersistent3 size sub wdata) s = .next { s with
      regs := { s.regs with persistent3 := merge s.regs.persistent3 sub size wdata }, resp := ⟨0, none⟩ } ∧
    exec (.rdPersistent4 size sub) s = .next { s with resp := ⟨s.regs.persistent4, none⟩ } ∧
    exec (.wrPersistent4 size sub wdata) s = .next { s with
      regs := { s.regs with persistent4 := merge s.regs.persistent4 sub size wdata }, resp := ⟨0, none⟩ } ∧
    exec (.rdPersistent5 size sub) s = .next { s with resp := ⟨s.regs.persistent5, none⟩ } ∧
    exec (.wrPersistent5 size sub wdata) s = .next { s with
      regs := { s.regs with persistent5 := merge s.regs.persistent5 sub size wdata }, resp := ⟨0, none⟩ } ∧
    exec (.rdDebug size sub) s = .next { s with resp := ⟨s.regs.debug, none⟩ } ∧
    exec (.wrDebug size sub wdata) s = .next { s with
      regs := { s.regs with debug := merge s.regs.debug sub size wdata }, resp := ⟨0, none⟩ } ∧
    exec (.rdVersion size sub) s = .next { s with resp := ⟨s.regs.version, none⟩ } ∧
    exec (.wrVersion size sub wdata) s = .next { s with
      regs := { s.regs with version := merge s.regs.version sub size wdata }, resp := ⟨0, none⟩ }

/-- The words CW & 0x9FF0 = 0x0000 are RD.CTRL; it answers the next state in which rdata is the whole CTRL cell and
nothing else changed, for every size and sub; from reset it returns 0xC0000000. -/
def Obligations.ReadCtrl : Prop :=
  (∀ (cw : CommandWord) (wd : Word), cw &&& 0x9FF0 = 0x0000 →
      decode cw wd = .rdCtrl (cwSize cw) (cwSub cw)) ∧
    (∀ (size : Size) (sub : SubOffset) (s : State),
      exec (.rdCtrl size sub) s = .next { s with resp := ⟨s.regs.ctrl, none⟩ }) ∧
    State.reset.regs.ctrl = 0xC0000000

/-- The words CW & 0x9FF0 = 0x8000 are WR.CTRL; it answers the next state in which CTRL is the merged value, with
bit 30 set when bit 31 of the merged value is 1 and bit 31 of the old content was 0 (the true pre-write content:
the spec's decision D3, log 10); rdata is 0 and no other cell, base or report changes. -/
def Obligations.WriteCtrl : Prop :=
  (∀ (cw : CommandWord) (wd : Word), cw &&& 0x9FF0 = 0x8000 →
      decode cw wd = .wrCtrl (cwSize cw) (cwSub cw) wd) ∧
    (∀ (size : Size) (sub : SubOffset) (wdata : Word) (s : State),
      exec (.wrCtrl size sub wdata) s = .next { s with
        regs := { s.regs with
          ctrl :=
            if (merge s.regs.ctrl sub size wdata).getLsbD 31 = true ∧ s.regs.ctrl.getLsbD 31 = false then
              merge s.regs.ctrl sub size wdata ||| 0x40000000
            else merge s.regs.ctrl sub size wdata }
        resp := ⟨0, none⟩ })

/-- The words CW & 0x9FF0 = 0x0020 are RD.MILLISECONDS; it answers the next state in which both live cells hold
sample minus base modulo 2^32, rdata is the milliseconds value, and the bases, every other cell and the trace
are unchanged, for every size and sub. -/
def Obligations.ReadMilliseconds : Prop :=
  (∀ (cw : CommandWord) (wd : Word), cw &&& 0x9FF0 = 0x0020 →
      decode cw wd = .rdMilliseconds (cwSize cw) (cwSub cw)) ∧
    (∀ (size : Size) (sub : SubOffset) (s : State),
      exec (.rdMilliseconds size sub) s = .next { s with
        regs := { s.regs with
          milliseconds := s.sample.nowMs - s.baseMs, seconds := s.sample.nowSec - s.baseSec }
        resp := ⟨s.sample.nowMs - s.baseMs, none⟩ })

/-- The words CW & 0x9FF0 = 0x0030 are RD.SECONDS; it answers the next state in which both live cells hold sample
minus base modulo 2^32, rdata is the seconds value, and the bases, every other cell and the trace are unchanged,
for every size and sub. -/
def Obligations.ReadSeconds : Prop :=
  (∀ (cw : CommandWord) (wd : Word), cw &&& 0x9FF0 = 0x0030 →
      decode cw wd = .rdSeconds (cwSize cw) (cwSub cw)) ∧
    (∀ (size : Size) (sub : SubOffset) (s : State),
      exec (.rdSeconds size sub) s = .next { s with
        regs := { s.regs with
          milliseconds := s.sample.nowMs - s.baseMs, seconds := s.sample.nowSec - s.baseSec }
        resp := ⟨s.sample.nowSec - s.baseSec, none⟩ })

/-- The words CW & 0x9FF0 = 0x8020 are WR.MILLISECONDS; it answers the next state in which the milliseconds cell is
the merge v of its STORED content (no refresh first), baseMs is nowMs - v modulo 2^32 (the spec's decisions D2
and D13, log 12), rdata is 0, and the other live cell, the other base, every other cell and the trace are
unchanged. -/
def Obligations.WriteMilliseconds : Prop :=
  (∀ (cw : CommandWord) (wd : Word), cw &&& 0x9FF0 = 0x8020 →
      decode cw wd = .wrMilliseconds (cwSize cw) (cwSub cw) wd) ∧
    (∀ (size : Size) (sub : SubOffset) (wdata : Word) (s : State),
      exec (.wrMilliseconds size sub wdata) s = .next { s with
        regs := { s.regs with milliseconds := merge s.regs.milliseconds sub size wdata }
        baseMs := s.sample.nowMs - merge s.regs.milliseconds sub size wdata
        resp := ⟨0, none⟩ })

/-- The words CW & 0x9FF0 = 0x8030 are WR.SECONDS; it answers the next state in which the seconds cell is the merge
v of its STORED content (no refresh first), baseSec is nowSec - v modulo 2^32 (the spec's decisions D2 and D13,
log 12), rdata is 0, and the other live cell, the other base, every other cell and the trace are unchanged. -/
def Obligations.WriteSeconds : Prop :=
  (∀ (cw : CommandWord) (wd : Word), cw &&& 0x9FF0 = 0x8030 →
      decode cw wd = .wrSeconds (cwSize cw) (cwSub cw) wd) ∧
    (∀ (size : Size) (sub : SubOffset) (wdata : Word) (s : State),
      exec (.wrSeconds size sub wdata) s = .next { s with
        regs := { s.regs with seconds := merge s.regs.seconds sub size wdata }
        baseSec := s.sample.nowSec - merge s.regs.seconds sub size wdata
        resp := ⟨0, none⟩ })

/-- Every read command word with idx 14 or more is RD.BAD; it answers the next state in which one report (read, the
full 13-bit offset) stands at the end of the trace and on the port, rdata is 0, and no cell, base or other state
changes. -/
def Obligations.ReadBadReportsOnce : Prop :=
  (∀ (cw : CommandWord) (wd : Word), cwWe cw = false → 14 ≤ (cwIdx cw).toNat →
      decode cw wd = .rdBad (cwIdx cw) (cwSize cw) (cwSub cw)) ∧
    (∀ (idx : Index) (size : Size) (sub : SubOffset) (s : State), 14 ≤ idx.toNat →
      exec (.rdBad idx size sub) s = .next { s with
        trace := s.trace ++ [⟨.read, idx ++ sub⟩], resp := ⟨0, some ⟨.read, idx ++ sub⟩⟩ })

/-- Every write command word with idx 14 or more is WR.BAD; it answers the next state in which one report (write,
the full 13-bit offset) stands at the end of the trace and on the port, rdata is 0, and no cell, base or other
state changes, whatever the write value. -/
def Obligations.WriteBadReportsOnce : Prop :=
  (∀ (cw : CommandWord) (wd : Word), cwWe cw = true → 14 ≤ (cwIdx cw).toNat →
      decode cw wd = .wrBad (cwIdx cw) (cwSize cw) (cwSub cw) wd) ∧
    (∀ (idx : Index) (size : Size) (sub : SubOffset) (wdata : Word) (s : State), 14 ≤ idx.toNat →
      exec (.wrBad idx size sub wdata) s = .next { s with
        trace := s.trace ++ [⟨.write, idx ++ sub⟩], resp := ⟨0, some ⟨.write, idx ++ sub⟩⟩ })

/-- For every command word, write value and state, exec of the decoded operation answers the next state that the
dispatch functions give: read(addr, size) or write(addr, size, wdata), written over the array x[0..13] with the
index addr >> 4, the refresh, the merge, the rebases (the spec's decision D2, log 12), apply_write and the
BadOffset report. -/
def Obligations.ExecAgreesWithAccessDispatch : Prop :=
  ∀ (cw : CommandWord) (wd : Word) (s : State),
    exec (decode cw wd) s =
      .next (if cwWe cw then accessWrite (cw.extractLsb' 0 13) (cwSize cw) wd s
        else accessRead (cw.extractLsb' 0 13) s)

/-- For every old content, sub and value: size 0 replaces the 8 bits at 8*sub[1:0] by value[7:0], size 1 the 16 bits
at 16*sub[1] by value[15:0], sizes 2 and 3 give the value whatever the old content is (the spec's decisions D6
to D9, logs 7 and 13). -/
def Obligations.MergeFollowsTheFormula : Prop :=
  ∀ (old : Word) (sub : SubOffset) (value : Word),
    merge old sub 0 value =
      (old &&& ~~~((0x000000FF : Word) <<< (8 * (sub.extractLsb' 0 2).toNat))) |||
        ((value &&& 0x000000FF) <<< (8 * (sub.extractLsb' 0 2).toNat)) ∧
    merge old sub 1 value =
      (old &&& ~~~((0x0000FFFF : Word) <<< (16 * (sub.extractLsb' 1 1).toNat))) |||
        ((value &&& 0x0000FFFF) <<< (16 * (sub.extractLsb' 1 1).toNat)) ∧
    merge old sub 2 value = value ∧ merge old sub 3 value = value

/-- For every lane k of the cell: if the access addresses lane k, the merged lane is byte k - first of the right-
justified value, where first is the first addressed lane; otherwise it is the old lane. A 1-byte access
addresses lane sub mod 4, a 2-byte access two lanes by sub[1], a 4-byte access all four. -/
def Obligations.MergeReplacesOnlyTheAddressedLanes : Prop :=
  ∀ (old : Word) (sub : SubOffset) (size : Size) (value : Word) (k : Nat), k < 4 →
    lane (merge old sub size value) k =
      if addressesLane size sub k = true then lane value (k - firstLane size sub) else lane old k

/-- Read through the byte at each offset of the window: a write of any register (CTRL and the live ones included)
leaves every byte that lies in another register or in a lane the access does not address; a read of a register
that is not live, RD.BAD and WR.BAD leave every byte. The byte behind an offset, a lane of the cell it selects,
is the model's view (log 8, DEDUCED); the lane order is log 13, and that a narrow live write does not refresh
first is log 14. -/
def Obligations.StoredBytesOutsideAnAccessAreUnchanged : Prop :=
  ∀ (size : Size) (sub : SubOffset) (wdata : Word) (s : State) (a : Offset),
    (∀ (r : Reg) (t : State), exec (writeOf r size sub wdata) s = .next t →
      (regOfIdx (a.extractLsb' 4 9) ≠ some r ∨ addressesLane size sub (a.toNat % 4) = false) →
      t.storedByte a = s.storedByte a) ∧
    (∀ (r : Reg) (t : State), r.isLive = false → exec (readOf r size sub) s = .next t →
      t.storedByte a = s.storedByte a) ∧
    (∀ (idx : Index) (t : State), exec (.rdBad idx size sub) s = .next t ∨ exec (.wrBad idx size sub wdata) s = .next t →
      t.storedByte a = s.storedByte a)

/-- For every old and new value: apply_write is new with 0x40000000 set when new has bit 31 and old has not, and new
otherwise; it keeps bit 31 and bits 29 to 0 of new in every case, and bit 30 is new's bit 30 or the latch
firing. The comparison with the true pre-write content is the spec's decision D3, log 10. -/
def Obligations.ApplyWriteForcesBitThirtyOnRisingEdge : Prop :=
  ∀ old new : Word,
    (new.getLsbD 31 = true → old.getLsbD 31 = false → applyWrite old new = new ||| 0x40000000) ∧
    (new.getLsbD 31 = false ∨ old.getLsbD 31 = true → applyWrite old new = new) ∧
    (applyWrite old new).getLsbD 30 = (new.getLsbD 30 || (new.getLsbD 31 && !old.getLsbD 31)) ∧
    (∀ i : Nat, i ≠ 30 → (applyWrite old new).getLsbD i = new.getLsbD i)

/-- (a) From any state, writing old with bit 31 clear, then old | 0x80000000, then reading CTRL returns old |
0x80000000 | 0x40000000, whatever the samples. (b) Writing a value with bit 31 set while CTRL has bit 31 set
stores the value itself. (c) Writing CTRL back with only bit 31 cleared keeps bit 30. -/
def Obligations.LatchPropertiesOfTheSource : Prop :=
  (∀ (s : State) (old : Word) (sub : SubOffset) (q0 q1 q2 : Sample), gateReq old = false →
      ∃ t, runCycles [writeCycle .ctrl 2 sub old q0, writeCycle .ctrl 2 sub (old ||| 0x80000000) q1,
          readCycle .ctrl 2 sub q2] s = .next t ∧
        t.resp.rdata = old ||| 0x80000000 ||| 0x40000000) ∧
    (∀ (s : State) (v : Word) (sub : SubOffset), gateReq s.regs.ctrl = true → gateReq v = true →
      ∃ t, exec (.wrCtrl 2 sub v) s = .next t ∧ t.regs.ctrl = v) ∧
    (∀ (s : State) (sub : SubOffset),
      ∃ t, exec (.wrCtrl 2 sub (s.regs.ctrl &&& ~~~0x80000000)) s = .next t ∧
        t.regs.ctrl = s.regs.ctrl &&& ~~~0x80000000 ∧ gateAck t.regs.ctrl = gateAck s.regs.ctrl)

/-- For every operation and state: after WR.CTRL, bit 31 is bit 31 of the merged value and bit 30 is bit 30 of the
merged value or the rising edge of bit 31; after every other operation both bits are as before. -/
def Obligations.GateBitsMoveOnlyByWritesOfCtrl : Prop :=
  ∀ (i : Instr) (s t : State), exec i s = .next t →
    match i with
    | .wrCtrl size sub wdata =>
      gateReq t.regs.ctrl = gateReq (merge s.regs.ctrl sub size wdata) ∧
      gateAck t.regs.ctrl = (gateAck (merge s.regs.ctrl sub size wdata) ||
        (gateReq (merge s.regs.ctrl sub size wdata) && !gateReq s.regs.ctrl))
    | _ => t.regs.ctrl = s.regs.ctrl

/-- A 1-byte write of CTRL to lane 0, 1 or 2, or a 2-byte write to lanes 0 and 1, never fires the latch and leaves
bits 31 and 30 as they were, whatever CTRL holds and whatever is written. It follows from the write rule of CTRL
and from merge. -/
def Obligations.LowLaneCtrlWritesKeepTheGateBits : Prop :=
  ∀ (size : Size) (sub : SubOffset) (wdata : Word) (s : State),
    (size = 0 ∧ sub.extractLsb' 0 2 ≠ 3) ∨ (size = 1 ∧ sub.getLsbD 1 = false) →
    ∃ t, exec (.wrCtrl size sub wdata) s = .next t ∧
      gateReq t.regs.ctrl = gateReq s.regs.ctrl ∧ gateAck t.regs.ctrl = gateAck s.regs.ctrl

/-- As the first write after reset, a 4-byte write of 0x80000000 to CTRL stores 0x80000000: bit 31 was already set,
the latch does not fire, bit 30 becomes 0. -/
def Obligations.FirstGateRequestAfterResetClearsTheAck : Prop :=
  ∀ (sub : SubOffset) (q : Sample), ∃ t, runCycles [writeCycle .ctrl 2 sub 0x80000000 q] State.reset = .next t ∧
    t.regs.ctrl = 0x80000000

/-- refresh gives now_ms - base_ms and now_sec - base_sec modulo 2^32; rebase_ms sets base_ms to now_ms - v, so that
refresh at the same sample yields v and at a later sample v + (now_ms' - now_ms); rebase_sec the same for
seconds. The rebase formula is the spec's decision D2, log 12. -/
def Obligations.RebaseThenRefreshCountsFromTheValue : Prop :=
  ∀ (s : State) (v : Word) (q : Sample),
    s.refresh = (s.sample.nowMs - s.baseMs, s.sample.nowSec - s.baseSec) ∧
    s.rebaseMs v = { s with baseMs := s.sample.nowMs - v } ∧
    s.rebaseSec v = { s with baseSec := s.sample.nowSec - v } ∧
    (s.rebaseMs v).refresh.1 = v ∧ (s.rebaseSec v).refresh.2 = v ∧
    ({ s.rebaseMs v with sample := q } : State).refresh.1 = v + (q.nowMs - s.sample.nowMs) ∧
    ({ s.rebaseSec v with sample := q } : State).refresh.2 = v + (q.nowSec - s.sample.nowSec)

/-- If WR.MILLISECONDS stores the merged value v at sample component ms0, then after any cycles that neither write
MILLISECONDS nor reset, RD.MILLISECONDS at ms1 returns ms1 - ms0 + v modulo 2^32; the same for SECONDS; and from
reset the register reads the raw sample until it is first written. Operations on other registers and reads do
not disturb it. -/
def Obligations.LiveRegistersSetAndCount : Prop :=
  (∀ (s : State) (cs : List PortIn) (size size' : Size) (sub sub' : SubOffset) (wdata : Word) (q0 q1 : Sample),
      (∀ c ∈ cs, c.leaves .milliseconds = true) →
      ∃ t, runCycles (writeCycle .milliseconds size sub wdata q0 :: (cs ++ [readCycle .milliseconds size' sub' q1])) s = .next t ∧
        t.resp = ⟨q1.nowMs - q0.nowMs + merge s.regs.milliseconds sub size wdata, none⟩) ∧
    (∀ (cs : List PortIn) (size : Size) (sub : SubOffset) (q : Sample), (∀ c ∈ cs, c.leaves .milliseconds = true) →
      ∃ t, runCycles (cs ++ [readCycle .milliseconds size sub q]) State.reset = .next t ∧ t.resp = ⟨q.nowMs, none⟩) ∧
    (∀ (s : State) (cs : List PortIn) (size size' : Size) (sub sub' : SubOffset) (wdata : Word) (q0 q1 : Sample),
      (∀ c ∈ cs, c.leaves .seconds = true) →
      ∃ t, runCycles (writeCycle .seconds size sub wdata q0 :: (cs ++ [readCycle .seconds size' sub' q1])) s = .next t ∧
        t.resp = ⟨q1.nowSec - q0.nowSec + merge s.regs.seconds sub size wdata, none⟩) ∧
    (∀ (cs : List PortIn) (size : Size) (sub : SubOffset) (q : Sample), (∀ c ∈ cs, c.leaves .seconds = true) →
      ∃ t, runCycles (cs ++ [readCycle .seconds size sub q]) State.reset = .next t ∧ t.resp = ⟨q.nowSec, none⟩)

/-- From any state, writing v to SECONDS at the host instant t0 and reading it at t1 (milliseconds of the host's
clock) returns v plus the number of second boundaries between them modulo 2^32; the open parameter EPOCH
cancels. The form of the host's sample is log 9. -/
def Obligations.SecondsCountFromAWriteWhateverTheEpoch : Prop :=
  ∀ (s : State) (v : Word) (sub sub' : SubOffset) (size' : Size) (t0 t1 : Int),
    ∃ t, runCycles [writeCycle .seconds 2 sub v (hostSample t0), readCycle .seconds size' sub' (hostSample t1)] s = .next t ∧
      t.resp.rdata = v + BitVec.ofInt 32 (t1 / 1000 - t0 / 1000)

/-- For CTRL and every plain-storage register: a 4-byte write of v, any cycles that neither write that register nor
reset, then a read of any width and position returns v with no report, whatever samples the cycles carry; for
CTRL provided the write is no rising edge of bit 31. -/
def Obligations.StorageRoundTrip : Prop :=
  ∀ r : Reg, r.isLive = false →
    ∀ (s : State) (sub sub' : SubOffset) (size' : Size) (v : Word) (q0 q1 : Sample) (cs : List PortIn),
      (∀ c ∈ cs, c.leaves r = true) → (r = .ctrl → latchFires s.regs.ctrl v = false) →
      ∃ t, runCycles (writeCycle r 2 sub v q0 :: (cs ++ [readCycle r size' sub' q1])) s = .next t ∧
        t.resp = ⟨v, none⟩

/-- If an operation changes a cell, it is a write of that register, or a read of MILLISECONDS or SECONDS and the
cell is one of those two; no BadOffset operation changes a cell. A 4-byte write of any register stores the value
written (for CTRL, as apply_write gives it), so no cell is hardwired. -/
def Obligations.CellsChangeOnlyByTheirOwnOperations : Prop :=
  (∀ (i : Instr) (s t : State) (r : Reg), exec i s = .next t → t.get r ≠ s.get r →
      (i.target = some r ∧ i.isWrite = true) ∨
      (r.isLive = true ∧ i.isWrite = false ∧ ∃ r', i.target = some r' ∧ r'.isLive = true)) ∧
    (∀ (r : Reg) (sub : SubOffset) (v : Word) (s : State), ∃ t, exec (writeOf r 2 sub v) s = .next t ∧
      t.get r = if r = .ctrl then applyWrite s.regs.ctrl v else v)

/-- If an operation changes base_ms it is WR.MILLISECONDS; if it changes base_sec it is WR.SECONDS. No read and no
other write touches either base. -/
def Obligations.BasesChangeOnlyByWritesOfTheirRegister : Prop :=
  ∀ (i : Instr) (s t : State), exec i s = .next t →
    (t.baseMs ≠ s.baseMs → ∃ size sub wdata, i = .wrMilliseconds size sub wdata) ∧
    (t.baseSec ≠ s.baseSec → ∃ size sub wdata, i = .wrSeconds size sub wdata)

/-- For every state and every list of cycles without reset, the run completes and its trace is the old one followed
by one report for each cycle that performs an operation at an index of 14 or more, with its direction and offset
as presented, in order. -/
def Obligations.OneReportPerBadOffsetOperation : Prop :=
  ∀ (cs : List PortIn) (s : State), (∀ c ∈ cs, c.rst = false) →
    ∃ t, runCycles cs s = .next t ∧ t.trace = s.trace ++ cs.filterMap PortIn.badReport

/-- After every cycle the port's bad is 1 exactly when that cycle performed an operation at an index of 14 or more,
the report on the port is that operation's direction and full offset, rdata is 0 whenever bad is 1 or the cycle
performed no read, and irq is 0. That an idle cycle drives rdata 0 is log 5. -/
def Obligations.BadStrobeMarksExactlyTheBadOffsetCycles : Prop :=
  ∀ (s t : State) (c : PortIn) (rest : List PortIn), s.inputs = c :: rest → step s = .next t →
    (portOut t).report = c.badReport ∧ (portOut t).bad = c.badReport.isSome ∧ (portOut t).irq = false ∧
    ((portOut t).bad = true ∨ c.performs = false ∨ c.we = true → (portOut t).rdata = 0)

/-- If every report of the trace is about an index of 14 or more, and a report on the port is the last of the trace
and comes with rdata 0, then the same holds after every step. -/
def Obligations.StepKeepsReportsConsistent : Prop :=
  ∀ s t : State, ReportsConsistent s → step s = .next t → ReportsConsistent t

/-- The state after reset meets the invariant on reports: its trace is empty and no report is on the port. That no
output is asserted at reset is log 5. -/
def Obligations.ResetReportsConsistent : Prop :=
  ReportsConsistent State.reset

/-- From every state step answers a next state whose pending cycles are the old ones without the first; and exec
answers a next state for every operation in every state. That the pending cycles are a list is the model's
choice (log 1). -/
def Obligations.EveryStepCompletes : Prop :=
  (∀ s : State, ∃ t, step s = .next t ∧ t.inputs = s.inputs.tail) ∧
    (∀ (i : Instr) (s : State), ∃ t, exec i s = .next t ∧ t.inputs = s.inputs ∧ t.sample = s.sample)

/-- If a read of any of the fourteen registers answers next t, then the same read on t (same sample) answers next t
again: the live reads included. -/
def Obligations.ReadsAreIdempotent : Prop :=
  ∀ (i : Instr) (s t : State), i.isWrite = false → i.target ≠ none → exec i s = .next t → exec i t = .next t

/-- For read command words with the same index of 0 to 13, exec of the decoded operations agrees on every state
whatever size, sub and wdata are; the read data is the whole 32-bit content of the register's cell as the read
leaves it; at an index of 14 or more the read data is 0. The whole cell for every width is the spec's decision
D10, log 13. -/
def Obligations.ReadsIgnoreWidthAndPosition : Prop :=
  ∀ (cw : CommandWord) (wd : Word) (s : State), cwWe cw = false →
    (∀ (cw' : CommandWord) (wd' : Word), cwWe cw' = false → cwIdx cw' = cwIdx cw → (cwIdx cw).toNat ≤ 13 →
      exec (decode cw' wd') s = exec (decode cw wd) s) ∧
    (∀ r : Reg, regOfIdx (cwIdx cw) = some r →
      ∃ t, exec (decode cw wd) s = .next t ∧ t.resp = ⟨t.get r, none⟩) ∧
    (14 ≤ (cwIdx cw).toNat → ∃ t, exec (decode cw wd) s = .next t ∧ t.resp.rdata = 0)

/-- For every register, value and state: a 1-byte write depends on sub mod 4 only, a 2-byte write on sub[1] only, a
4-byte write not on sub; and a write or read with size 3 does what size 2 does. -/
def Obligations.WindowOffsetsAliasAndReservedSizeIsFourBytes : Prop :=
  ∀ (r : Reg) (sub sub' : SubOffset) (wdata : Word) (s : State),
    (sub.extractLsb' 0 2 = sub'.extractLsb' 0 2 → exec (writeOf r 0 sub wdata) s = exec (writeOf r 0 sub' wdata) s) ∧
    (sub.getLsbD 1 = sub'.getLsbD 1 → exec (writeOf r 1 sub wdata) s = exec (writeOf r 1 sub' wdata) s) ∧
    exec (writeOf r 2 sub wdata) s = exec (writeOf r 2 sub' wdata) s ∧
    exec (writeOf r 3 sub wdata) s = exec (writeOf r 2 sub wdata) s ∧
    exec (readOf r 3 sub) s = exec (readOf r 2 sub) s

/-- For every operation on a register other than MILLISECONDS and SECONDS, and for RD.BAD and WR.BAD: exec on the
state with any other sample gives the same next state but for the sample lines themselves. -/
def Obligations.OnlyLiveOperationsUseTheSample : Prop :=
  ∀ (i : Instr) (s : State) (q : Sample), (∀ r, i.target = some r → r.isLive = false) →
    exec i { s with sample := q } = mapNext (fun t => { t with sample := q }) (exec i s)

/-- For every register r other than MILLISECONDS and SECONDS and every operation not on r: exec on the state with
any other value in r gives the same next state but for r itself. In particular no CTRL bit and no value of STAT,
ALARM, WATCHDOG, PERSISTENT0 to PERSISTENT5, DEBUG or VERSION changes what any operation on another register
does. -/
def Obligations.StorageCellsInfluenceNoOtherOperation : Prop :=
  ∀ (i : Instr) (r : Reg) (v : Word) (s : State), r.isLive = false → i.target ≠ some r →
    exec i (s.set r v) = mapNext (fun t => t.set r v) (exec i s)

/-- The wall-clock sample of any instant meets the host's duty now_ms in 0..999. The form of the sample is log 9;
the block itself assumes nothing. -/
def Obligations.HostSampleMeetsTheDuty : Prop :=
  ∀ t : Int, (hostSample t).hostDuty = true

/-- A bus address has an offset exactly when it lies from WINDOW_BASE up to WINDOW_BASE + 0x1FFF, and the offset is
the difference; any other address does not reach the block. The decoder is the platform's, its form here is log
9. -/
def Obligations.BusDecoderSelectsExactlyTheWindow : Prop :=
  ∀ (a : Nat) (o : Offset), busOffset a = some o ↔
    (Config.windowBase ≤ a ∧ a < Config.windowBase + 0x2000 ∧ o.toNat = a - Config.windowBase)
end

