-- ==== Sys2Proof/Laws/Decode.lean ====
section
/-! SUPPORT. The fields of a packed command word, and the index of a register (spec 30_encoding.md R51, R52, R57). -/

namespace Sys2Proof

variable (we : Bool) (size : Size) (idx : Index) (sub : SubOffset)

/-- The command word as a number: the fields at their bit positions (R51). -/
theorem toNat_packCw :
    (packCw we size idx sub).toNat = we.toNat * 2 ^ 15 + size.toNat * 2 ^ 13 + idx.toNat * 2 ^ 4 + sub.toNat := by
  have hs := sub.isLt
  have hi := idx.isLt
  have hz := size.isLt
  have h1 : ((BitVec.ofBool we ++ size).toNat) = we.toNat * 2 ^ 2 + size.toNat := by
    rw [BitVec.toNat_append, ← Nat.shiftLeft_add_eq_or_of_lt hz, Nat.shiftLeft_eq, BitVec.toNat_ofBool]
  have h2 : ((idx ++ sub).toNat) = idx.toNat * 2 ^ 4 + sub.toNat := by
    rw [BitVec.toNat_append, ← Nat.shiftLeft_add_eq_or_of_lt hs, Nat.shiftLeft_eq]
  have h3 : (idx ++ sub).toNat < 2 ^ (9 + 4) := (idx ++ sub).isLt
  unfold packCw
  rw [BitVec.toNat_append, ← Nat.shiftLeft_add_eq_or_of_lt h3, Nat.shiftLeft_eq, h1, h2]
  omega

@[simp] theorem cwWe_packCw : cwWe (packCw we size idx sub) = we := by
  have := toNat_packCw we size idx sub
  have hs := sub.isLt
  have hi := idx.isLt
  have hz := size.isLt
  unfold cwWe
  rw [← BitVec.testBit_toNat, Nat.testBit_eq_decide_div_mod_eq, this]
  cases we <;> simp only [Bool.toNat_true, Bool.toNat_false, decide_eq_true_eq, decide_eq_false_iff_not] <;> omega

@[simp] theorem cwSize_packCw : cwSize (packCw we size idx sub) = size := by
  have := toNat_packCw we size idx sub
  have hs := sub.isLt
  have hi := idx.isLt
  have hz := size.isLt
  have hw := we.toNat_lt
  apply BitVec.eq_of_toNat_eq
  rw [cwSize, BitVec.extractLsb'_toNat, this, Nat.shiftRight_eq_div_pow]
  omega

@[simp] theorem cwIdx_packCw : cwIdx (packCw we size idx sub) = idx := by
  have := toNat_packCw we size idx sub
  have hs := sub.isLt
  have hi := idx.isLt
  apply BitVec.eq_of_toNat_eq
  rw [cwIdx, BitVec.extractLsb'_toNat, this, Nat.shiftRight_eq_div_pow]
  omega

@[simp] theorem cwSub_packCw : cwSub (packCw we size idx sub) = sub := by
  have := toNat_packCw we size idx sub
  have hs := sub.isLt
  apply BitVec.eq_of_toNat_eq
  rw [cwSub, BitVec.extractLsb'_toNat, this, Nat.shiftRight_eq_div_pow]
  omega

/-- A command word is its four fields (R51). -/
theorem packCw_fields (cw : CommandWord) : packCw (cwWe cw) (cwSize cw) (cwIdx cw) (cwSub cw) = cw := by
  have h := cw.isLt
  apply BitVec.eq_of_toNat_eq
  rw [toNat_packCw, cwSize, cwIdx, cwSub, BitVec.extractLsb'_toNat, BitVec.extractLsb'_toNat, BitVec.extractLsb'_toNat,
    cwWe, ← BitVec.testBit_toNat, Nat.testBit_eq_decide_div_mod_eq]
  simp only [Nat.shiftRight_eq_div_pow]
  by_cases hb : cw.toNat / 2 ^ 15 % 2 = 1 <;> simp only [hb, decide_true, decide_false, Bool.toNat_true, Bool.toNat_false] <;>
    omega

/-- The bits of a packed command word (R51). -/
theorem getLsbD_packCw (i : Nat) :
    (packCw we size idx sub).getLsbD i =
      if i < 13 then if i < 4 then sub.getLsbD i else idx.getLsbD (i - 4)
      else if i < 15 then size.getLsbD (i - 13) else (BitVec.ofBool we).getLsbD (i - 15) := by
  have h1 : (packCw we size idx sub).getLsbD i = if i < 9 + 4 then (idx ++ sub).getLsbD i
      else (BitVec.ofBool we ++ size).getLsbD (i - (9 + 4)) := BitVec.getLsbD_append
  have h2 : (idx ++ sub).getLsbD i = if i < 4 then sub.getLsbD i else idx.getLsbD (i - 4) :=
    BitVec.getLsbD_append
  have h3 : (BitVec.ofBool we ++ size).getLsbD (i - 13) =
      if i - 13 < 2 then size.getLsbD (i - 13) else (BitVec.ofBool we).getLsbD (i - 13 - 2) :=
    BitVec.getLsbD_append
  rw [h1, h2, show i - (9 + 4) = i - 13 from rfl, h3, Nat.sub_sub]
  by_cases ha : i < 13
  · simp [ha]
  · by_cases hb : i < 15
    · have : i - 13 < 2 := by omega
      simp [ha, hb, this]
    · have : ¬ i - 13 < 2 := by omega
      simp [ha, hb, this]

/-- The selection mask 0x9FF0 keeps `we` and `idx` and drops `size` and `sub` (R57). -/
theorem packCw_and_selectionMask :
    packCw we size idx sub &&& 0x9FF0 = packCw we 0 idx 0 := by
  apply BitVec.eq_of_getLsbD_eq
  intro i hi
  rw [BitVec.getLsbD_and, getLsbD_packCw, getLsbD_packCw]
  have hm : ∀ j : Fin 16, (0x9FF0 : CommandWord).getLsbD j = decide ((4 ≤ j.val ∧ j.val < 13) ∨ j.val = 15) := by
    decide
  rw [show (0x9FF0 : CommandWord).getLsbD i = decide ((4 ≤ i ∧ i < 13) ∨ i = 15) from hm ⟨i, hi⟩]
  by_cases ha : i < 13
  · by_cases hb : i < 4
    · have : ¬ 4 ≤ i := by omega
      have h15 : ¬ i = 15 := by omega
      simp [ha, hb, this, h15]
    · have : 4 ≤ i := by omega
      simp [ha, hb, this]
  · by_cases hb : i < 15
    · have h15 : ¬ i = 15 := by omega
      simp [ha, hb, h15]
    · have h15 : i = 15 := by omega
      subst h15
      simp

/-- A register's index selects it (R11, R52). -/
@[simp] theorem regOfIdx_idx (r : Reg) : regOfIdx r.idx = some r := by
  cases r <;> rfl

/-- The index of the register an index selects is that index (R11, R52). -/
theorem idx_of_regOfIdx {idx : Index} {r : Reg} (h : regOfIdx idx = some r) : idx = r.idx := by
  revert h; revert r; revert idx; decide

/-- An index selects no register exactly when it is 14 or more (R12, R52, R135). -/
theorem regOfIdx_eq_none (idx : Index) : regOfIdx idx = none ↔ badIndex idx = true := by
  revert idx; decide

end Sys2Proof
end

