-- ==== Sys2Proof/Laws/State.lean ====
section
/-! SUPPORT. One lemma per field per update of the state, and the read-after-write law of the RegisterFile. -/

namespace Sys2Proof.Machine

variable (s : State)

@[simp] theorem set_regs (r : Reg) (v : Word) : (s.set r v).regs = s.regs.set r v := rfl
@[simp] theorem set_baseMs (r : Reg) (v : Word) : (s.set r v).baseMs = s.baseMs := rfl
@[simp] theorem set_baseSec (r : Reg) (v : Word) : (s.set r v).baseSec = s.baseSec := rfl
@[simp] theorem set_trace (r : Reg) (v : Word) : (s.set r v).trace = s.trace := rfl
@[simp] theorem set_resp (r : Reg) (v : Word) : (s.set r v).resp = s.resp := rfl
@[simp] theorem set_sample (r : Reg) (v : Word) : (s.set r v).sample = s.sample := rfl
@[simp] theorem set_inputs (r : Reg) (v : Word) : (s.set r v).inputs = s.inputs := rfl

@[simp] theorem respond_regs (v : Word) : (s.respond v).regs = s.regs := rfl
@[simp] theorem respond_baseMs (v : Word) : (s.respond v).baseMs = s.baseMs := rfl
@[simp] theorem respond_baseSec (v : Word) : (s.respond v).baseSec = s.baseSec := rfl
@[simp] theorem respond_trace (v : Word) : (s.respond v).trace = s.trace := rfl
@[simp] theorem respond_resp (v : Word) : (s.respond v).resp = ⟨v, none⟩ := rfl
@[simp] theorem respond_sample (v : Word) : (s.respond v).sample = s.sample := rfl
@[simp] theorem respond_inputs (v : Word) : (s.respond v).inputs = s.inputs := rfl

@[simp] theorem hold_regs : (s.hold).regs = s.regs := rfl
@[simp] theorem hold_baseMs : (s.hold).baseMs = s.baseMs := rfl
@[simp] theorem hold_baseSec : (s.hold).baseSec = s.baseSec := rfl
@[simp] theorem hold_trace : (s.hold).trace = s.trace := rfl
@[simp] theorem hold_resp : (s.hold).resp = ⟨0, none⟩ := rfl
@[simp] theorem hold_sample : (s.hold).sample = s.sample := rfl
@[simp] theorem hold_inputs : (s.hold).inputs = s.inputs := rfl

@[simp] theorem rebaseMs_regs (v : Word) : (s.rebaseMs v).regs = s.regs := rfl
@[simp] theorem rebaseMs_baseMs (v : Word) : (s.rebaseMs v).baseMs = s.sample.nowMs - v := rfl
@[simp] theorem rebaseMs_baseSec (v : Word) : (s.rebaseMs v).baseSec = s.baseSec := rfl
@[simp] theorem rebaseMs_trace (v : Word) : (s.rebaseMs v).trace = s.trace := rfl
@[simp] theorem rebaseMs_resp (v : Word) : (s.rebaseMs v).resp = s.resp := rfl
@[simp] theorem rebaseMs_sample (v : Word) : (s.rebaseMs v).sample = s.sample := rfl
@[simp] theorem rebaseMs_inputs (v : Word) : (s.rebaseMs v).inputs = s.inputs := rfl

@[simp] theorem rebaseSec_regs (v : Word) : (s.rebaseSec v).regs = s.regs := rfl
@[simp] theorem rebaseSec_baseMs (v : Word) : (s.rebaseSec v).baseMs = s.baseMs := rfl
@[simp] theorem rebaseSec_baseSec (v : Word) : (s.rebaseSec v).baseSec = s.sample.nowSec - v := rfl
@[simp] theorem rebaseSec_trace (v : Word) : (s.rebaseSec v).trace = s.trace := rfl
@[simp] theorem rebaseSec_resp (v : Word) : (s.rebaseSec v).resp = s.resp := rfl
@[simp] theorem rebaseSec_sample (v : Word) : (s.rebaseSec v).sample = s.sample := rfl
@[simp] theorem rebaseSec_inputs (v : Word) : (s.rebaseSec v).inputs = s.inputs := rfl

@[simp] theorem storeRefreshed_regs : (s.storeRefreshed).regs = (s.regs.set .milliseconds s.refresh.1).set .seconds s.refresh.2 := rfl
@[simp] theorem storeRefreshed_baseMs : (s.storeRefreshed).baseMs = s.baseMs := rfl
@[simp] theorem storeRefreshed_baseSec : (s.storeRefreshed).baseSec = s.baseSec := rfl
@[simp] theorem storeRefreshed_trace : (s.storeRefreshed).trace = s.trace := rfl
@[simp] theorem storeRefreshed_resp : (s.storeRefreshed).resp = s.resp := rfl
@[simp] theorem storeRefreshed_sample : (s.storeRefreshed).sample = s.sample := rfl
@[simp] theorem storeRefreshed_inputs : (s.storeRefreshed).inputs = s.inputs := rfl

@[simp] theorem raiseBadOffset_regs (d : Dir) (a : Offset) : (raiseBadOffset d a s).regs = s.regs := rfl
@[simp] theorem raiseBadOffset_baseMs (d : Dir) (a : Offset) : (raiseBadOffset d a s).baseMs = s.baseMs := rfl
@[simp] theorem raiseBadOffset_baseSec (d : Dir) (a : Offset) : (raiseBadOffset d a s).baseSec = s.baseSec := rfl
@[simp] theorem raiseBadOffset_trace (d : Dir) (a : Offset) : (raiseBadOffset d a s).trace = s.trace ++ [⟨d, a⟩] := rfl
@[simp] theorem raiseBadOffset_resp (d : Dir) (a : Offset) : (raiseBadOffset d a s).resp = ⟨0, some ⟨d, a⟩⟩ := rfl
@[simp] theorem raiseBadOffset_sample (d : Dir) (a : Offset) : (raiseBadOffset d a s).sample = s.sample := rfl
@[simp] theorem raiseBadOffset_inputs (d : Dir) (a : Offset) : (raiseBadOffset d a s).inputs = s.inputs := rfl

@[simp] theorem applyRst_regs : (applyRst s).regs = State.reset.regs := rfl
@[simp] theorem applyRst_baseMs : (applyRst s).baseMs = State.reset.baseMs := rfl
@[simp] theorem applyRst_baseSec : (applyRst s).baseSec = State.reset.baseSec := rfl
@[simp] theorem applyRst_trace : (applyRst s).trace = State.reset.trace := rfl
@[simp] theorem applyRst_resp : (applyRst s).resp = State.reset.resp := rfl
@[simp] theorem applyRst_sample : (applyRst s).sample = State.reset.sample := rfl
@[simp] theorem applyRst_inputs : (applyRst s).inputs = s.inputs := rfl

/-- A cell reads the value last stored in it, and storing one cell leaves the others alone (R12, R71). -/
@[simp] theorem regFile_get_set (x : RegFile) (r r' : Reg) (v : Word) :
    (x.set r v).get r' = if r' = r then v else x.get r' := by
  cases r <;> cases r' <;> rfl

@[simp] theorem state_get_set (r r' : Reg) (v : Word) :
    (s.set r v).get r' = if r' = r then v else s.get r' := regFile_get_set s.regs r r' v

@[simp] theorem get_respond (r : Reg) (v : Word) : (s.respond v).get r = s.get r := rfl

@[simp] theorem get_hold (r : Reg) : s.hold.get r = s.get r := rfl

@[simp] theorem get_rebaseMs (r : Reg) (v : Word) : (s.rebaseMs v).get r = s.get r := rfl

@[simp] theorem get_rebaseSec (r : Reg) (v : Word) : (s.rebaseSec v).get r = s.get r := rfl

@[simp] theorem get_raiseBadOffset (r : Reg) (d : Dir) (a : Offset) :
    (raiseBadOffset d a s).get r = s.get r := rfl

/-- A refresh stores into the two live cells and no other (R38, R104, R105). -/
@[simp] theorem get_storeRefreshed (r : Reg) :
    s.storeRefreshed.get r =
      if r = .seconds then s.refresh.2 else if r = .milliseconds then s.refresh.1 else s.get r := by
  simp [State.storeRefreshed]

/-- Two register files that agree at every index are equal (R10). -/
theorem regFile_ext_get (x y : RegFile) (h : ∀ r, x.get r = y.get r) : x = y := by
  cases x; cases y
  simp only [RegFile.mk.injEq]
  exact ⟨h .ctrl, h .stat, h .milliseconds, h .seconds, h .alarm, h .watchdog, h .persistent0, h .persistent1,
    h .persistent2, h .persistent3, h .persistent4, h .persistent5, h .debug, h .version⟩

/-- Stores to different cells commute (R12). -/
theorem regFile_set_comm (x : RegFile) (r r' : Reg) (v v' : Word) (h : r ≠ r') :
    (x.set r v).set r' v' = (x.set r' v').set r v := by
  cases r <;> cases r' <;> first | rfl | exact absurd rfl h

end Sys2Proof.Machine
end

