-- ==== Sys2Proof/Laws/Ops.lean ====
section
/-! SUPPORT. What the shared operations can do, said once: the meanings' shared forms, the clock cycle and the step. -/

namespace Sys2Proof.Machine

/-- What a read of a stored cell does: the cell on `rdata`, nothing changed (R72). -/
theorem readStored_next {r : Reg} {s t : State} (h : readStored r s = .next t) :
    t = { s with resp := ⟨s.get r, none⟩ } := by
  simpa [readStored, State.respond] using h.symm

/-- What a write of a plain-storage register does: the merge in its cell, `rdata` = 0, nothing else changed (R72). -/
theorem writeStored_next {r : Reg} {size : Size} {sub : SubOffset} {wdata : Word} {s t : State}
    (h : writeStored r size sub wdata s = .next t) :
    t = { s with regs := s.regs.set r (merge (s.get r) sub size wdata), resp := ⟨0, none⟩ } := by
  simpa [writeStored, State.respond, State.set] using h.symm

/-- What raising BadOffset does: one report at the end of the trace and on the port (R136, R137). -/
theorem raiseBadOffset_eq (d : Dir) (a : Offset) (s : State) :
    raiseBadOffset d a s = { s with trace := s.trace ++ [⟨d, a⟩], resp := ⟨0, some ⟨d, a⟩⟩ } := rfl

/-- What a refresh stores: both live values of this sample, and nothing else (R101, R104). -/
theorem storeRefreshed_eq (s : State) :
    s.storeRefreshed =
      { s with regs := { s.regs with
          milliseconds := s.sample.nowMs - s.baseMs
          seconds := s.sample.nowSec - s.baseSec } } := rfl

/-- What a clock cycle can do: reset, an operation at the cycle's sample, or nothing (R50, R151). -/
theorem clockCycle_next {c : PortIn} {s t : State} (h : clockCycle c s = .next t) :
    (c.rst = true ∧ t = applyRst s) ∨
    (c.rst = false ∧ c.req = true ∧ exec c.operation { s with sample := c.sample } = .next t) ∨
    (c.rst = false ∧ c.req = false ∧ t = { s with sample := c.sample, resp := ⟨0, none⟩ }) := by
  unfold clockCycle at h
  split at h
  · next hr => exact .inl ⟨hr, by simpa using h.symm⟩
  · next hr =>
    have hr : c.rst = false := by simpa using hr
    split at h
    · next hq => exact .inr (.inl ⟨hr, hq, h⟩)
    · next hq =>
      exact .inr (.inr ⟨hr, by simpa using hq, by simpa [State.hold, State.respond] using h.symm⟩)

/-- What a step can do: hold when no cycle is pending, or the next pending cycle (log 2). -/
theorem step_next {s t : State} (h : step s = .next t) :
    (s.inputs = [] ∧ t = { s with resp := ⟨0, none⟩ }) ∨
    (∃ c rest, s.inputs = c :: rest ∧ clockCycle c { s with inputs := rest } = .next t) := by
  unfold step at h
  split at h
  · next hi => exact .inl ⟨hi, by simpa [State.hold, State.respond] using h.symm⟩
  · next c rest hi => exact .inr ⟨c, rest, hi, h⟩

/-- No operation touches the cycles still to come. -/
theorem exec_inputs {i : Instr} {s t : State} (h : exec i s = .next t) : t.inputs = s.inputs := by
  cases i <;> (injection h with h; subst h; rfl)

/-- No operation touches the sample lines. -/
theorem exec_sample {i : Instr} {s t : State} (h : exec i s = .next t) : t.sample = s.sample := by
  cases i <;> (injection h with h; subst h; rfl)

end Sys2Proof.Machine
end

