-- ==== Sys2Proof/Laws/PerInstr.lean ====
section
/-! SUPPORT. Per-instruction facts: the encoding of a well-formed operation lies in a row of the opcode table that
carries its mnemonic (spec 30_encoding.md R51, R57). -/

namespace Sys2Proof.Laws

/-- A row's test depends on `we` and `idx` alone when its mask lies within the selection mask (R57). -/
theorem selects_packCw (row : OpcodeRow) (hm : 0x9FF0 &&& row.mask = row.mask) (we : Bool) (size : Size)
    (idx : Index) (sub : SubOffset) :
    row.selects (packCw we size idx sub) = row.selects (packCw we 0 idx 0) := by
  unfold OpcodeRow.selects
  rw [← packCw_and_selectionMask we size idx sub, BitVec.and_assoc, hm]

/-- Every row's mask lies within the selection mask (R57). -/
theorem opcodeTable_masks : ∀ row ∈ opcodeTable, 0x9FF0 &&& row.mask = row.mask := by decide

/-- A table row that selects `(we, idx)` at size 0, sub 0 selects it at every size and sub. -/
theorem tableRow_of_base {mn : String} {we : Bool} {idx : Index} (size : Size) (sub : SubOffset)
    (h : ∃ row ∈ opcodeTable, row.mnemonic = mn ∧ row.selects (packCw we 0 idx 0) = true) :
    ∃ row ∈ opcodeTable, row.mnemonic = mn ∧ row.selects (packCw we size idx sub) = true := by
  obtain ⟨row, hr, hn, hs⟩ := h
  exact ⟨row, hr, hn, (selects_packCw row (opcodeTable_masks row hr) we size idx sub).trans hs⟩

/-- The encoding of a well-formed operation is selected by a row with the operation's mnemonic. -/
def TableRow.Statement (i : Instr) : Prop :=
  i.wf = true → ∃ row ∈ opcodeTable, row.mnemonic = i.mnemonic ∧ row.selects (encode i).1 = true

/-- The twelve BAD rows reach every index that selects no register (R57). -/
theorem badRows_complete : ∀ idx : Index, badIndex idx = true →
    (∃ row ∈ opcodeTable, row.mnemonic = "RD.BAD" ∧ row.selects (packCw false 0 idx 0) = true) ∧
    (∃ row ∈ opcodeTable, row.mnemonic = "WR.BAD" ∧ row.selects (packCw true 0 idx 0) = true) := by
  decide

theorem TableRow.rdCtrl (size : Size) (sub : SubOffset) : TableRow.Statement (.rdCtrl size sub) :=
  fun _ => tableRow_of_base (mn := "RD.CTRL") size sub (by decide)

theorem TableRow.wrCtrl (size : Size) (sub : SubOffset) (wdata : Word) : TableRow.Statement (.wrCtrl size sub wdata) :=
  fun _ => tableRow_of_base (mn := "WR.CTRL") size sub (by decide)

theorem TableRow.rdStat (size : Size) (sub : SubOffset) : TableRow.Statement (.rdStat size sub) :=
  fun _ => tableRow_of_base (mn := "RD.STAT") size sub (by decide)

theorem TableRow.wrStat (size : Size) (sub : SubOffset) (wdata : Word) : TableRow.Statement (.wrStat size sub wdata) :=
  fun _ => tableRow_of_base (mn := "WR.STAT") size sub (by decide)

theorem TableRow.rdMilliseconds (size : Size) (sub : SubOffset) : TableRow.Statement (.rdMilliseconds size sub) :=
  fun _ => tableRow_of_base (mn := "RD.MILLISECONDS") size sub (by decide)

theorem TableRow.wrMilliseconds (size : Size) (sub : SubOffset) (wdata : Word) : TableRow.Statement (.wrMilliseconds size sub wdata) :=
  fun _ => tableRow_of_base (mn := "WR.MILLISECONDS") size sub (by decide)

theorem TableRow.rdSeconds (size : Size) (sub : SubOffset) : TableRow.Statement (.rdSeconds size sub) :=
  fun _ => tableRow_of_base (mn := "RD.SECONDS") size sub (by decide)

theorem TableRow.wrSeconds (size : Size) (sub : SubOffset) (wdata : Word) : TableRow.Statement (.wrSeconds size sub wdata) :=
  fun _ => tableRow_of_base (mn := "WR.SECONDS") size sub (by decide)

theorem TableRow.rdAlarm (size : Size) (sub : SubOffset) : TableRow.Statement (.rdAlarm size sub) :=
  fun _ => tableRow_of_base (mn := "RD.ALARM") size sub (by decide)

theorem TableRow.wrAlarm (size : Size) (sub : SubOffset) (wdata : Word) : TableRow.Statement (.wrAlarm size sub wdata) :=
  fun _ => tableRow_of_base (mn := "WR.ALARM") size sub (by decide)

theorem TableRow.rdWatchdog (size : Size) (sub : SubOffset) : TableRow.Statement (.rdWatchdog size sub) :=
  fun _ => tableRow_of_base (mn := "RD.WATCHDOG") size sub (by decide)

theorem TableRow.wrWatchdog (size : Size) (sub : SubOffset) (wdata : Word) : TableRow.Statement (.wrWatchdog size sub wdata) :=
  fun _ => tableRow_of_base (mn := "WR.WATCHDOG") size sub (by decide)

theorem TableRow.rdPersistent0 (size : Size) (sub : SubOffset) : TableRow.Statement (.rdPersistent0 size sub) :=
  fun _ => tableRow_of_base (mn := "RD.PERSISTENT0") size sub (by decide)

theorem TableRow.wrPersistent0 (size : Size) (sub : SubOffset) (wdata : Word) : TableRow.Statement (.wrPersistent0 size sub wdata) :=
  fun _ => tableRow_of_base (mn := "WR.PERSISTENT0") size sub (by decide)

theorem TableRow.rdPersistent1 (size : Size) (sub : SubOffset) : TableRow.Statement (.rdPersistent1 size sub) :=
  fun _ => tableRow_of_base (mn := "RD.PERSISTENT1") size sub (by decide)

theorem TableRow.wrPersistent1 (size : Size) (sub : SubOffset) (wdata : Word) : TableRow.Statement (.wrPersistent1 size sub wdata) :=
  fun _ => tableRow_of_base (mn := "WR.PERSISTENT1") size sub (by decide)

theorem TableRow.rdPersistent2 (size : Size) (sub : SubOffset) : TableRow.Statement (.rdPersistent2 size sub) :=
  fun _ => tableRow_of_base (mn := "RD.PERSISTENT2") size sub (by decide)

theorem TableRow.wrPersistent2 (size : Size) (sub : SubOffset) (wdata : Word) : TableRow.Statement (.wrPersistent2 size sub wdata) :=
  fun _ => tableRow_of_base (mn := "WR.PERSISTENT2") size sub (by decide)

theorem TableRow.rdPersistent3 (size : Size) (sub : SubOffset) : TableRow.Statement (.rdPersistent3 size sub) :=
  fun _ => tableRow_of_base (mn := "RD.PERSISTENT3") size sub (by decide)

theorem TableRow.wrPersistent3 (size : Size) (sub : SubOffset) (wdata : Word) : TableRow.Statement (.wrPersistent3 size sub wdata) :=
  fun _ => tableRow_of_base (mn := "WR.PERSISTENT3") size sub (by decide)

theorem TableRow.rdPersistent4 (size : Size) (sub : SubOffset) : TableRow.Statement (.rdPersistent4 size sub) :=
  fun _ => tableRow_of_base (mn := "RD.PERSISTENT4") size sub (by decide)

theorem TableRow.wrPersistent4 (size : Size) (sub : SubOffset) (wdata : Word) : TableRow.Statement (.wrPersistent4 size sub wdata) :=
  fun _ => tableRow_of_base (mn := "WR.PERSISTENT4") size sub (by decide)

theorem TableRow.rdPersistent5 (size : Size) (sub : SubOffset) : TableRow.Statement (.rdPersistent5 size sub) :=
  fun _ => tableRow_of_base (mn := "RD.PERSISTENT5") size sub (by decide)

theorem TableRow.wrPersistent5 (size : Size) (sub : SubOffset) (wdata : Word) : TableRow.Statement (.wrPersistent5 size sub wdata) :=
  fun _ => tableRow_of_base (mn := "WR.PERSISTENT5") size sub (by decide)

theorem TableRow.rdDebug (size : Size) (sub : SubOffset) : TableRow.Statement (.rdDebug size sub) :=
  fun _ => tableRow_of_base (mn := "RD.DEBUG") size sub (by decide)

theorem TableRow.wrDebug (size : Size) (sub : SubOffset) (wdata : Word) : TableRow.Statement (.wrDebug size sub wdata) :=
  fun _ => tableRow_of_base (mn := "WR.DEBUG") size sub (by decide)

theorem TableRow.rdVersion (size : Size) (sub : SubOffset) : TableRow.Statement (.rdVersion size sub) :=
  fun _ => tableRow_of_base (mn := "RD.VERSION") size sub (by decide)

theorem TableRow.wrVersion (size : Size) (sub : SubOffset) (wdata : Word) : TableRow.Statement (.wrVersion size sub wdata) :=
  fun _ => tableRow_of_base (mn := "WR.VERSION") size sub (by decide)

theorem TableRow.rdBad (idx : Index) (size : Size) (sub : SubOffset) : TableRow.Statement (.rdBad idx size sub) :=
  fun h => tableRow_of_base size sub (badRows_complete idx h).1

theorem TableRow.wrBad (idx : Index) (size : Size) (sub : SubOffset) (wdata : Word) :
    TableRow.Statement (.wrBad idx size sub wdata) :=
  fun h => tableRow_of_base size sub (badRows_complete idx h).2

end Sys2Proof.Laws
end

