-- ==== Sys2Proof/Laws/Runs.lean ====
section
/-! SUPPORT. Runs over a list of cycles, one cycle at a time, and the independence of an operation from the cycles still
to come (spec 20_memory.md R40). -/

namespace Sys2Proof.Machine

/-- An operation does not depend on the cycles still to come. -/
theorem exec_withInputs (i : Instr) (s : State) (l : List PortIn) :
    exec i { s with inputs := l } = mapNext (fun t => { t with inputs := l }) (exec i s) := by
  cases i <;> rfl

/-- A clock cycle does not depend on the cycles still to come. -/
theorem clockCycle_withInputs (c : PortIn) (s : State) (l : List PortIn) :
    clockCycle c { s with inputs := l } = mapNext (fun t => { t with inputs := l }) (clockCycle c s) := by
  unfold clockCycle
  split
  · rfl
  · split
    · exact exec_withInputs c.operation { s with sample := c.sample } l
    · rfl

/-- A clock cycle leaves the cycles still to come. -/
theorem clockCycle_inputs {c : PortIn} {s t : State} (h : clockCycle c s = .next t) : t.inputs = s.inputs := by
  rcases clockCycle_next h with ⟨_, rfl⟩ | ⟨_, _, he⟩ | ⟨_, _, rfl⟩
  · rfl
  · have hi := exec_inputs he
    exact hi
  · rfl

/-- The run over no cycle. -/
theorem runCycles_nil (s : State) : runCycles [] s = .next { s with inputs := [] } := rfl

/-- A run depends on its state only up to the pending cycles. -/
theorem runCycles_withInputs (cs : List PortIn) (s : State) (l : List PortIn) :
    runCycles cs { s with inputs := l } = runCycles cs s := rfl

/-- A run over `c :: cs` is the cycle `c` and then the run over `cs`. -/
theorem runCycles_cons {c : PortIn} {cs : List PortIn} {s t : State} (h : clockCycle c s = .next t) :
    runCycles (c :: cs) s = runCycles cs t := by
  have hs : Sys2Proof.core.step { s with inputs := c :: cs } = .next { t with inputs := cs } := by
    have hc := clockCycle_withInputs c s cs
    rw [h] at hc
    exact hc
  simp only [runCycles, List.length_cons, Host.Core.run]
  rw [hs]

end Sys2Proof.Machine
end

