-- ==== Sys2Proof/Machine/BusProgram.lean ====
section
/-! DEFINITION. The written form of a sequence of operations (spec 30_encoding.md R60) and the source's shorthand
(R61), as data, with the cycles it stands for. -/

namespace Sys2Proof.Machine

/-- One line (R60): `rd.<w> <target>`, `wr.<w> <target>, <value>`, `@ ms=<n> sec=<n>`, `reset`. -/
inductive Line where
  | rd (w : Width) (target : Offset)
  | wr (w : Width) (target : Offset) (value : Word)
  | clock (sample : Sample)
  | reset
deriving DecidableEq, Repr

/-- `<regname> "+" <sub>`: an offset in the register's window (R60). -/
def regTarget (r : Reg) (sub : SubOffset) : Offset := r.idx ++ sub

/-- `read(REG)` = `rd.w REG` (R61). -/
def readReg (r : Reg) : Line := .rd .word (regTarget r 0)

/-- `write(REG, v)` = `wr.w REG, v` (R61). -/
def writeReg (r : Reg) (v : Word) : Line := .wr .word (regTarget r 0) v

/-- The cycles of a sequence of lines: `@` sets the sample of every following operation, `reset` applies reset (R60).
`sample` is the sample in force before the first `@`. -/
def assemble (sample : Sample) : List Line → List PortIn
  | [] => []
  | .rd w a :: ls => ⟨false, true, false, sizeOf w, a, 0, sample⟩ :: assemble sample ls
  | .wr w a v :: ls => ⟨false, true, true, sizeOf w, a, v, sample⟩ :: assemble sample ls
  | .clock q :: ls => assemble q ls
  | .reset :: ls => ⟨true, false, false, 0, 0, 0, sample⟩ :: assemble sample ls

end Sys2Proof.Machine
end

