-- ==== Sys2Proof/Tests/Slice0.lean ====
section
/-! SUPPORT. The model's own tests: well-formedness, decoding of words written out from the encoding (spec
30_encoding.md R51), the spec's worked examples, and a witness for the hypotheses of every statement. Expected values
are the spec's (95_test_vectors.md and the rules' examples). -/

namespace Sys2Proof.Tests

open Sys2Proof.Machine

/-- The next state of an outcome. -/
def nextOf : Result → Option State
  | .next t => some t
  | _ => none

/-- The reset state with chosen cells. -/
def withRegs (x : RegFile) : State := { State.reset with regs := x }

/-- The reset state at a wall-clock sample. -/
def atSample (ms sec : Word) : State := { State.reset with sample := ⟨ms, sec⟩ }

/-- The cells after an operation. -/
def regsAfter (i : Instr) (s : State) : Option RegFile := (nextOf (exec i s)).map (·.regs)

/-- The response of an operation. -/
def respOf (i : Instr) (s : State) : Option Response := (nextOf (exec i s)).map (·.resp)

/-! ## Well-formedness: each check refuses an ill-formed term -/

theorem test_wf_refuses_rdBad_of_a_register : (Instr.rdBad 13 2 0).wf = false := by decide
theorem test_wf_refuses_wrBad_of_a_register : (Instr.wrBad 0 2 0 0).wf = false := by decide
theorem test_wf_admits_first_bad_index : (Instr.rdBad 14 2 0).wf = true ∧ (Instr.wrBad 14 3 15 0).wf = true := by decide

/-! ## Decoding: words written out bit by bit as we, size, idx, sub -/

theorem test_decode_ctrl :
    decode 0b0_10_000000000_0000 7 = .rdCtrl 2 0 ∧ decode 0b1_00_000000000_0011 0x80 = .wrCtrl 0 3 0x80 := by decide
theorem test_decode_stat :
    decode 0b0_00_000000001_0111 7 = .rdStat 0 7 ∧ decode 0b1_01_000000001_0010 0x1234 = .wrStat 1 2 0x1234 := by decide
theorem test_decode_milliseconds :
    decode 0b0_10_000000010_0000 7 = .rdMilliseconds 2 0 ∧
    decode 0b1_10_000000010_0000 5 = .wrMilliseconds 2 0 5 := by decide
theorem test_decode_seconds :
    decode 0b0_10_000000011_0000 7 = .rdSeconds 2 0 ∧ decode 0b1_00_000000011_0000 0x10 = .wrSeconds 0 0 0x10 := by decide
theorem test_decode_alarm :
    decode 0b0_10_000000100_0000 7 = .rdAlarm 2 0 ∧ decode 0b1_11_000000100_0000 9 = .wrAlarm 3 0 9 := by decide
theorem test_decode_watchdog :
    decode 0b0_00_000000101_0111 7 = .rdWatchdog 0 7 ∧
    decode 0b1_01_000000101_1110 0x1234 = .wrWatchdog 1 14 0x1234 := by decide
theorem test_decode_persistent0 :
    decode 0b0_00_000000110_0000 7 = .rdPersistent0 0 0 ∧
    decode 0b1_00_000000110_0111 0x5A = .wrPersistent0 0 7 0x5A := by decide
theorem test_decode_persistent1 :
    decode 0b0_10_000000111_0000 7 = .rdPersistent1 2 0 ∧
    decode 0b1_00_000000111_0001 0x5A = .wrPersistent1 0 1 0x5A := by decide
theorem test_decode_persistent2 :
    decode 0b0_10_000001000_0000 7 = .rdPersistent2 2 0 ∧
    decode 0b1_01_000001000_0010 0xBEEF = .wrPersistent2 1 2 0xBEEF := by decide
theorem test_decode_persistent3 :
    decode 0b0_10_000001001_0000 7 = .rdPersistent3 2 0 ∧
    decode 0b1_00_000001001_0011 0x5A = .wrPersistent3 0 3 0x5A := by decide
theorem test_decode_persistent4 :
    decode 0b0_10_000001010_0000 7 = .rdPersistent4 2 0 ∧
    decode 0b1_10_000001010_0000 0xDEADBEEF = .wrPersistent4 2 0 0xDEADBEEF := by decide
theorem test_decode_persistent5 :
    decode 0b0_10_000001011_0000 7 = .rdPersistent5 2 0 ∧
    decode 0b1_01_000001011_0000 0xBEEF = .wrPersistent5 1 0 0xBEEF := by decide
theorem test_decode_debug :
    decode 0b0_10_000001100_0000 7 = .rdDebug 2 0 ∧ decode 0b1_00_000001100_0010 0x7F = .wrDebug 0 2 0x7F := by decide
theorem test_decode_version :
    decode 0b0_10_000001101_1111 7 = .rdVersion 2 15 ∧ decode 0b1_10_000001101_0000 0 = .wrVersion 2 0 0 := by decide
theorem test_decode_bad :
    decode 0b0_10_000001110_0000 7 = .rdBad 14 2 0 ∧ decode 0b1_10_111111111_1111 9 = .wrBad 511 2 15 9 := by decide

/-- Encodings the rules' examples give (R73 to R129). -/
theorem test_encode_examples :
    encode (.rdStat 2 0) = (0x4010, 0) ∧ encode (.wrStat 1 2 0x1234) = (0xA012, 0x1234) ∧
    encode (.wrCtrl 0 3 0x80) = (0x8003, 0x80) ∧ encode (.wrSeconds 2 0 0x3E8) = (0xC030, 0x3E8) ∧
    encode (.wrBad 16 2 0 0xFFFFFFFF) = (0xC100, 0xFFFFFFFF) := by decide

/-- An opcode-table word: CW in bits 15..0, zero write value above. -/
theorem test_decodeTableWord : decodeTableWord 16 0x80E0 = some (.wrBad 14 0 0 0) := by decide

/-! ## merge: the worked values of R55, old = 0x11223344, and V14 -/

theorem test_merge_byte :
    merge 0x11223344 0x0 0 0x000000AA = 0x112233AA ∧ merge 0x11223344 0x1 0 0x000000AA = 0x1122AA44 ∧
    merge 0x11223344 0x2 0 0x000000AA = 0x11AA3344 ∧ merge 0x11223344 0x7 0 0x000000AA = 0xAA223344 ∧
    merge 0x11223344 0x0 0 0xFFFFFFAA = 0x112233AA ∧ merge 0x00000000 0x2 0 0x000001FF = 0x00FF0000 := by decide
theorem test_merge_half :
    merge 0x11223344 0x0 1 0x0000BEEF = 0x1122BEEF ∧ merge 0x11223344 0x1 1 0x0000BEEF = 0x1122BEEF ∧
    merge 0x11223344 0x2 1 0x0000BEEF = 0xBEEF3344 ∧ merge 0x11223344 0xE 1 0x0000BEEF = 0xBEEF3344 := by decide
theorem test_merge_word :
    merge 0x11223344 0x3 2 0xCAFEF00D = 0xCAFEF00D ∧ merge 0x11223344 0x0 3 0xCAFEF00D = 0xCAFEF00D := by decide

/-! ## Plain storage: the examples of R73 to R94, reads from reset -/

theorem test_reads_from_reset :
    respOf (.rdStat 0 7) State.reset = some ⟨0xE80F0000, none⟩ ∧
    respOf (.rdVersion 0 7) State.reset = some ⟨0x02000000, none⟩ ∧
    respOf (.rdCtrl 2 0) State.reset = some ⟨0xC0000000, none⟩ ∧
    respOf (.rdAlarm 2 0) State.reset = some ⟨0, none⟩ := by decide

/-- A register file with a different value in every cell. -/
def marked : RegFile :=
  ⟨0x100, 0x101, 0x102, 0x103, 0x104, 0x105, 0x106, 0x107, 0x108, 0x109, 0x10A, 0x10B, 0x10C, 0x10D⟩

/-- Each read returns its own cell (R73 to R93, R116); PERSISTENT4 and PERSISTENT5 are distinct (V25). -/
theorem test_reads_own_cell :
    respOf (.rdCtrl 0 1) (withRegs marked) = some ⟨0x100, none⟩ ∧ respOf (.rdStat 0 1) (withRegs marked) = some ⟨0x101, none⟩ ∧
    respOf (.rdAlarm 0 1) (withRegs marked) = some ⟨0x104, none⟩ ∧
    respOf (.rdWatchdog 0 1) (withRegs marked) = some ⟨0x105, none⟩ ∧
    respOf (.rdPersistent0 0 1) (withRegs marked) = some ⟨0x106, none⟩ ∧
    respOf (.rdPersistent1 0 1) (withRegs marked) = some ⟨0x107, none⟩ ∧
    respOf (.rdPersistent2 0 1) (withRegs marked) = some ⟨0x108, none⟩ ∧
    respOf (.rdPersistent3 0 1) (withRegs marked) = some ⟨0x109, none⟩ ∧
    respOf (.rdPersistent4 0 1) (withRegs marked) = some ⟨0x10A, none⟩ ∧
    respOf (.rdPersistent5 0 1) (withRegs marked) = some ⟨0x10B, none⟩ ∧
    respOf (.rdDebug 0 1) (withRegs marked) = some ⟨0x10C, none⟩ ∧
    respOf (.rdVersion 0 1) (withRegs marked) = some ⟨0x10D, none⟩ := by decide

theorem test_wrStat : regsAfter (.wrStat 1 2 0x1234) (withRegs { marked with stat := 0x11223344 }) =
    some { marked with stat := 0x12343344 } := by decide
theorem test_wrAlarm : regsAfter (.wrAlarm 2 0 0x3C) (withRegs { marked with alarm := 0x11223344 }) =
    some { marked with alarm := 0x0000003C } := by decide
theorem test_wrWatchdog : regsAfter (.wrWatchdog 1 14 0x1234) (withRegs { marked with watchdog := 0x0000BEEF }) =
    some { marked with watchdog := 0x1234BEEF } := by decide
theorem test_wrPersistent0 : regsAfter (.wrPersistent0 0 0 0x5A) (withRegs { marked with persistent0 := 0x11223344 }) =
    some { marked with persistent0 := 0x1122335A } := by decide
theorem test_wrPersistent1 : regsAfter (.wrPersistent1 0 1 0x5A) (withRegs { marked with persistent1 := 0x11223344 }) =
    some { marked with persistent1 := 0x11225A44 } := by decide
theorem test_wrPersistent2 : regsAfter (.wrPersistent2 1 2 0xBEEF) (withRegs { marked with persistent2 := 0x11223344 }) =
    some { marked with persistent2 := 0xBEEF3344 } := by decide
theorem test_wrPersistent3 : regsAfter (.wrPersistent3 0 3 0x5A) (withRegs { marked with persistent3 := 0x11223344 }) =
    some { marked with persistent3 := 0x5A223344 } := by decide
theorem test_wrPersistent4 :
    regsAfter (.wrPersistent4 2 0 0xDEADBEEF) (withRegs { marked with persistent4 := 0x11223344 }) =
      some { marked with persistent4 := 0xDEADBEEF } := by decide
theorem test_wrPersistent5 : regsAfter (.wrPersistent5 1 0 0xBEEF) (withRegs { marked with persistent5 := 0x11223344 }) =
    some { marked with persistent5 := 0x1122BEEF } := by decide
theorem test_wrDebug : regsAfter (.wrDebug 0 2 0x7F) (withRegs { marked with debug := 0x11223344 }) =
    some { marked with debug := 0x117F3344 } := by decide
theorem test_wrVersion : regsAfter (.wrVersion 2 0 0) (withRegs { marked with version := 0x11223344 }) =
    some { marked with version := 0 } := by decide

/-! ## TimeBase: R104 to R107, V40 to V54 -/

theorem test_rdMilliseconds_V40 :
    respOf (.rdMilliseconds 2 0) (atSample 250 0x6553F100) = some ⟨0x000000FA, none⟩ ∧
    regsAfter (.rdMilliseconds 2 0) (atSample 250 0x6553F100) =
      some { RegFile.reset with milliseconds := 0x000000FA, seconds := 0x6553F100 } := by decide
theorem test_rdMilliseconds_wraps_V46 :
    respOf (.rdMilliseconds 0 3) { atSample 100 0x6553F101 with baseMs := 0x384 } = some ⟨0xFFFFFCE0, none⟩ := by decide
theorem test_rdSeconds_V41 :
    respOf (.rdSeconds 2 0) (atSample 250 0x6553F100) = some ⟨0x6553F100, none⟩ ∧
    regsAfter (.rdSeconds 2 0) (atSample 250 0x6553F100) =
      some { RegFile.reset with milliseconds := 0x000000FA, seconds := 0x6553F100 } := by decide
theorem test_rdSeconds_clock_stepped_back_V52 :
    respOf (.rdSeconds 2 0) { atSample 0 0x6553F0FF with baseSec := 0x6553F100 } = some ⟨0xFFFFFFFF, none⟩ := by decide
theorem test_wrMilliseconds_V48 :
    (nextOf (exec (.wrMilliseconds 2 0 5000) (atSample 10 0))).map (fun t => (t.regs.milliseconds, t.baseMs, t.baseSec)) =
      some (5000, 0xFFFFEC82, 0) := by decide
theorem test_wrMilliseconds_merges_stored_cell_P4 :
    (nextOf (exec (.wrMilliseconds 1 0 0) { withRegs { RegFile.reset with milliseconds := 0x258 } with
        sample := ⟨600, 0x6553F300⟩ })).map (fun t => (t.regs.milliseconds, t.baseMs, t.resp.rdata)) =
      some (0, 0x258, 0) := by decide
theorem test_wrSeconds_V49 :
    (nextOf (exec (.wrSeconds 2 0 0x3E8) (atSample 0 0x6553F100))).map (fun t => (t.regs.seconds, t.baseSec, t.baseMs)) =
      some (0x3E8, 0x6553ED18, 0) := by decide
theorem test_wrSeconds_merges_stored_cell_P4 :
    (nextOf (exec (.wrSeconds 0 0 0x77) { withRegs { RegFile.reset with seconds := 0x110 } with
        sample := ⟨600, 0x6553F300⟩ })).map (fun t => (t.regs.seconds, t.baseSec)) = some (0x177, 0x6553F189) := by decide

/-! ## ControlLatch: the worked values of R117 -/

theorem test_wrCtrl_edge :
    regsAfter (.wrCtrl 0 3 0x80) (withRegs { marked with ctrl := 0x00001234 }) = some { marked with ctrl := 0xC0001234 } ∧
    regsAfter (.wrCtrl 1 2 0x8000) (withRegs { marked with ctrl := 0x0000FFFF }) = some { marked with ctrl := 0xC000FFFF } ∧
    regsAfter (.wrCtrl 0 3 0xBF) (withRegs { marked with ctrl := 0x7FFFFFFF }) = some { marked with ctrl := 0xFFFFFFFF } := by
  decide
theorem test_wrCtrl_no_edge :
    regsAfter (.wrCtrl 2 0 0x80000000) State.reset = some { RegFile.reset with ctrl := 0x80000000 } ∧
    regsAfter (.wrCtrl 2 0 0x40000000) State.reset = some { RegFile.reset with ctrl := 0x40000000 } ∧
    regsAfter (.wrCtrl 0 0 0xFF) (withRegs { marked with ctrl := 0x80000000 }) = some { marked with ctrl := 0x800000FF } ∧
    regsAfter (.wrCtrl 0 3 0x3F) (withRegs { marked with ctrl := 0xFFFFFFFF }) = some { marked with ctrl := 0x3FFFFFFF } := by
  decide

/-! ## BadOffset: V80 to V85 -/

theorem test_rdBad_V82 : nextOf (exec (.rdBad 511 1 14) (atSample 3 0x6553F100)) =
    some { atSample 3 0x6553F100 with trace := [⟨.read, 0x1FFE⟩], resp := ⟨0, some ⟨.read, 0x1FFE⟩⟩ } := by decide
theorem test_wrBad_V81 : nextOf (exec (.wrBad 14 2 0 0xDEADBEEF) State.reset) =
    some { State.reset with trace := [⟨.write, 0x00E0⟩], resp := ⟨0, some ⟨.write, 0x00E0⟩⟩ } := by decide

/-! ## The port and the step -/

/-- A cycle of `wr.w WATCHDOG, 0x1388` at a sample, with a later cycle pending. -/
def pendingWrite : State :=
  { State.reset with inputs := [writeCycle .watchdog 2 0 0x1388 ⟨5, 6⟩, readCycle .watchdog 2 0 ⟨7, 8⟩] }

theorem test_step_write : nextOf (step pendingWrite) =
    some { State.reset with
      regs := { RegFile.reset with watchdog := 0x1388 }, sample := ⟨5, 6⟩,
      inputs := [readCycle .watchdog 2 0 ⟨7, 8⟩] } := by decide
theorem test_step_idle : nextOf (step State.reset) = some State.reset := by decide
theorem test_step_withFetchWord : (nextOf (step (State.reset.withFetchWord 16 0x40D0))).map (fun t => (t.resp, t.inputs)) =
    some (⟨0x02000000, none⟩, []) := by decide
theorem test_step_rst :
    nextOf (step { withRegs marked with
      trace := [⟨.read, 0xE0⟩], baseMs := 7, inputs := [⟨true, true, true, 2, 0x60, 9, ⟨1, 2⟩⟩] }) = some State.reset := by
  decide

/-- R60: `@ ms=7 sec=8`, `wr.b CTRL+3, 0x80` (0x8003:0x00000080), `rd.w SECONDS` (0x4030), `reset`. -/
theorem test_assemble : assemble ⟨0, 0⟩
      [.clock ⟨7, 8⟩, .wr .byte (regTarget .ctrl 3) 0x80, readReg .seconds, .reset] =
    [PortIn.ofWords 0x8003 0x80 ⟨7, 8⟩, PortIn.ofWords 0x4030 0 ⟨7, 8⟩, ⟨true, false, false, 0, 0, 0, ⟨7, 8⟩⟩] := by decide

/-- The stored byte behind an offset: 0xC2 is lane 2 of DEBUG, 0xE0 selects no register (R31, R34). -/
theorem test_storedByte :
    (withRegs { marked with debug := 0x11223344 }).storedByte 0x0C2 = some 0x22 ∧
    (withRegs marked).storedByte 0x0E0 = none := by decide

/-! ## Witnesses: for each statement with hypotheses, a state and operands that meet them all -/

theorem witness_DecodeOfEncode : (Instr.rdBad 14 0 0).wf = true ∧ (Instr.wrBad 511 3 15 1).wf = true := by decide

theorem witness_StepPerforms : pendingWrite.inputs = writeCycle .watchdog 2 0 0x1388 ⟨5, 6⟩ :: [readCycle .watchdog 2 0 ⟨7, 8⟩] ∧
    (writeCycle .watchdog 2 0 0x1388 ⟨5, 6⟩).rst = false ∧ (writeCycle .watchdog 2 0 0x1388 ⟨5, 6⟩).req = true := by decide

theorem witness_FetchWord : decodeTableWord 16 0x4030 = some (.rdSeconds 2 0) := by decide

/-- A cycle without operation. -/
def idleCycle : PortIn := ⟨false, false, true, 2, 0x60, 9, ⟨1, 2⟩⟩

theorem witness_CyclesWithoutOperation :
    ({ State.reset with inputs := [idleCycle] } : State).inputs = idleCycle :: [] ∧ idleCycle.rst = false ∧
    idleCycle.req = false ∧ State.reset.inputs = [] := by decide

/-- A cycle with reset and an operation on the lines. -/
def resetCycle : PortIn := ⟨true, true, true, 2, 0x60, 9, ⟨1, 2⟩⟩

theorem witness_ResetCycle :
    ({ withRegs marked with inputs := [resetCycle, idleCycle] } : State).inputs = resetCycle :: [idleCycle] ∧
    resetCycle.rst = true := by decide

theorem witness_ResetState : Reg.alarm ≠ .ctrl ∧ Reg.alarm ≠ .stat ∧ Reg.alarm ≠ .version := by decide

theorem witness_Encodings :
    (0x400F : CommandWord) &&& 0x9FF0 = 0x0000 ∧ (0xE003 : CommandWord) &&& 0x9FF0 = 0x8000 ∧
    (0x4020 : CommandWord) &&& 0x9FF0 = 0x0020 ∧ (0x0035 : CommandWord) &&& 0x9FF0 = 0x0030 ∧
    (0xC020 : CommandWord) &&& 0x9FF0 = 0x8020 ∧ (0xA032 : CommandWord) &&& 0x9FF0 = 0x8030 := by decide

theorem witness_BadEncodings :
    cwWe 0x00E0 = false ∧ 14 ≤ (cwIdx 0x00E0).toNat ∧ cwWe 0xDFFF = true ∧ 14 ≤ (cwIdx 0xDFFF).toNat ∧
    14 ≤ (14 : Index).toNat ∧ 14 ≤ (511 : Index).toNat := by decide

/-- Both branches, at the last lane. -/
theorem witness_MergeLanes : 3 < 4 ∧ addressesLane 0 7 3 = true ∧ addressesLane 0 6 3 = false := by decide

/-- A narrow write whose neighbour lane and neighbour register keep their bytes; a read; a BadOffset. -/
theorem witness_StoredBytes :
    (∃ t, exec (writeOf .ctrl 0 3 0x80) (withRegs marked) = .next t) ∧
    regOfIdx ((0x012 : Offset).extractLsb' 4 9) ≠ some .ctrl ∧ addressesLane 0 3 ((0x002 : Offset).toNat % 4) = false ∧
    Reg.version.isLive = false ∧ (∃ t, exec (readOf .version 0 3) (withRegs marked) = .next t) ∧
    (∃ t, exec (.rdBad 14 0 3) (withRegs marked) = .next t) :=
  ⟨⟨_, rfl⟩, by decide, by decide, by decide, ⟨_, rfl⟩, ⟨_, rfl⟩⟩

theorem witness_ApplyWrite :
    (0x80000001 : Word).getLsbD 31 = true ∧ (0x7FFFFFFF : Word).getLsbD 31 = false ∧ (31 : Nat) ≠ 30 := by decide

theorem witness_LatchProperties :
    gateReq 0x00000005 = false ∧ gateReq State.reset.regs.ctrl = true ∧ gateReq 0x80000000 = true := by decide

theorem witness_GateBits :
    (∃ t, exec (.wrCtrl 0 3 0x80) (withRegs marked) = .next t) ∧ (∃ t, exec (.rdBad 14 0 0) State.reset = .next t) :=
  ⟨⟨_, rfl⟩, ⟨_, rfl⟩⟩

theorem witness_LowLaneCtrlWrites :
    ((0 : Size) = 0 ∧ (2 : SubOffset).extractLsb' 0 2 ≠ 3) ∧ ((1 : Size) = 1 ∧ (1 : SubOffset).getLsbD 1 = false) := by decide

/-- Cycles that leave the live registers and VERSION alone: a live read, a write of ALARM, an idle cycle, a bad read. -/
def between : List PortIn :=
  [readCycle .seconds 2 0 ⟨1, 2⟩, writeCycle .alarm 0 1 7 ⟨3, 4⟩, idleCycle, ⟨false, true, false, 2, 0x0E0, 0, ⟨5, 6⟩⟩]

theorem witness_LiveRegisters :
    (∀ c ∈ between, c.leaves .milliseconds = true) ∧ (∀ c ∈ between, c.leaves .seconds = true) := by decide

theorem witness_StorageRoundTrip :
    Reg.version.isLive = false ∧ (∀ c ∈ between, c.leaves .version = true) ∧ Reg.ctrl.isLive = false ∧
    (∀ c ∈ between, c.leaves .ctrl = true) ∧ latchFires State.reset.regs.ctrl 0x80000000 = false := by decide

theorem witness_CellsChange :
    (∃ t, exec (.wrAlarm 2 0 1) State.reset = .next t ∧ t.get .alarm ≠ State.reset.get .alarm) ∧
    (∃ t, exec (.rdSeconds 2 0) (atSample 5 6) = .next t ∧ t.get .milliseconds ≠ (atSample 5 6).get .milliseconds) :=
  ⟨⟨_, rfl, by decide⟩, ⟨_, rfl, by decide⟩⟩

theorem witness_BasesChange :
    (∃ t, exec (.wrMilliseconds 2 0 1) State.reset = .next t ∧ t.baseMs ≠ State.reset.baseMs) ∧
    (∃ t, exec (.wrSeconds 2 0 1) State.reset = .next t ∧ t.baseSec ≠ State.reset.baseSec) :=
  ⟨⟨_, rfl, by decide⟩, ⟨_, rfl, by decide⟩⟩

theorem witness_OneReport : (∀ c ∈ between, c.rst = false) ∧ between.filterMap PortIn.badReport = [⟨.read, 0x0E0⟩] := by decide

/-- A bad read is pending. -/
def pendingBad : State := { withRegs marked with inputs := [⟨false, true, false, 1, 0x1FFE, 0, ⟨5, 6⟩⟩, idleCycle] }

theorem witness_BadStrobe : pendingBad.inputs = ⟨false, true, false, 1, 0x1FFE, 0, ⟨5, 6⟩⟩ :: [idleCycle] ∧
    ∃ t, step pendingBad = .next t ∧ (portOut t).bad = true :=
  ⟨by decide, _, rfl, by decide⟩

/-- A state with a report on the port. -/
def reported : State := raiseBadOffset .read 0x0E0 { State.reset with inputs := [idleCycle] }

theorem witness_StepKeepsReportsConsistent : ReportsConsistent reported ∧ ∃ t, step reported = .next t :=
  ⟨⟨by decide, fun e h => by simp_all [reported, raiseBadOffset, State.reset]⟩, _, rfl⟩

theorem witness_ReadsAreIdempotent :
    (Instr.rdMilliseconds 0 3).isWrite = false ∧ (Instr.rdMilliseconds 0 3).target ≠ none ∧
    ∃ t, exec (.rdMilliseconds 0 3) (atSample 5 6) = .next t :=
  ⟨by decide, by decide, _, rfl⟩

theorem witness_ReadsIgnoreWidth :
    cwWe 0x40DF = false ∧ cwWe 0x00D0 = false ∧ cwIdx 0x00D0 = cwIdx 0x40DF ∧ (cwIdx 0x40DF).toNat ≤ 13 ∧
    regOfIdx (cwIdx 0x40DF) = some .version ∧ cwWe 0x40E0 = false ∧ 14 ≤ (cwIdx 0x40E0).toNat := by decide

theorem witness_WindowAliases :
    (1 : SubOffset).extractLsb' 0 2 = (13 : SubOffset).extractLsb' 0 2 ∧ (2 : SubOffset).getLsbD 1 = (15 : SubOffset).getLsbD 1 := by
  decide

theorem witness_OnlyLiveOperations :
    (∀ r, (Instr.wrCtrl 2 0 1).target = some r → r.isLive = false) ∧
    (∀ r, (Instr.rdBad 14 2 0).target = some r → r.isLive = false) :=
  ⟨fun r h => by cases h; decide, fun r h => by cases h⟩

theorem witness_StorageCells : Reg.ctrl.isLive = false ∧ (Instr.rdSeconds 2 0).target ≠ some .ctrl := by decide

theorem witness_NothingSurvivesReset : resetCycle.rst = true := by decide

end Sys2Proof.Tests
end

section
/-! SUPPORT. Every operation is a read of a register, a write of a register, RD.BAD or WR.BAD, and each of the four has
one equation for all registers (spec 30_encoding.md R57, 43_register_access.md R125 to R129). -/

namespace Sys2Proof.Machine

/-! ## The four forms of an operation (R57) -/

/-- Case split of an operation by direction and register. -/
theorem instr_cases {motive : Instr → Prop} (read : ∀ r size sub, motive (readOf r size sub))
    (write : ∀ r size sub wdata, motive (writeOf r size sub wdata))
    (rdBad : ∀ idx size sub, motive (.rdBad idx size sub))
    (wrBad : ∀ idx size sub wdata, motive (.wrBad idx size sub wdata)) : ∀ i, motive i
  | .rdCtrl size sub => read .ctrl size sub
  | .wrCtrl size sub wdata => write .ctrl size sub wdata
  | .rdStat size sub => read .stat size sub
  | .wrStat size sub wdata => write .stat size sub wdata
  | .rdMilliseconds size sub => read .milliseconds size sub
  | .wrMilliseconds size sub wdata => write .milliseconds size sub wdata
  | .rdSeconds size sub => read .seconds size sub
  | .wrSeconds size sub wdata => write .seconds size sub wdata
  | .rdAlarm size sub => read .alarm size sub
  | .wrAlarm size sub wdata => write .alarm size sub wdata
  | .rdWatchdog size sub => read .watchdog size sub
  | .wrWatchdog size sub wdata => write .watchdog size sub wdata
  | .rdPersistent0 size sub => read .persistent0 size sub
  | .wrPersistent0 size sub wdata => write .persistent0 size sub wdata
  | .rdPersistent1 size sub => read .persistent1 size sub
  | .wrPersistent1 size sub wdata => write .persistent1 size sub wdata
  | .rdPersistent2 size sub => read .persistent2 size sub
  | .wrPersistent2 size sub wdata => write .persistent2 size sub wdata
  | .rdPersistent3 size sub => read .persistent3 size sub
  | .wrPersistent3 size sub wdata => write .persistent3 size sub wdata
  | .rdPersistent4 size sub => read .persistent4 size sub
  | .wrPersistent4 size sub wdata => write .persistent4 size sub wdata
  | .rdPersistent5 size sub => read .persistent5 size sub
  | .wrPersistent5 size sub wdata => write .persistent5 size sub wdata
  | .rdDebug size sub => read .debug size sub
  | .wrDebug size sub wdata => write .debug size sub wdata
  | .rdVersion size sub => read .version size sub
  | .wrVersion size sub wdata => write .version size sub wdata
  | .rdBad idx size sub => rdBad idx size sub
  | .wrBad idx size sub wdata => wrBad idx size sub wdata

section
variable (r : Reg) (size : Size) (sub : SubOffset) (wdata : Word)

@[simp] theorem target_readOf : (readOf r size sub).target = some r := by cases r <;> rfl
@[simp] theorem target_writeOf : (writeOf r size sub wdata).target = some r := by cases r <;> rfl
@[simp] theorem isWrite_readOf : (readOf r size sub).isWrite = false := by cases r <;> rfl
@[simp] theorem isWrite_writeOf : (writeOf r size sub wdata).isWrite = true := by cases r <;> rfl

/-- The command word of a defined write decodes to it (R57). -/
theorem decode_packCw_write : decode (packCw true size r.idx sub) wdata = writeOf r size sub wdata := by
  simp [decode]

end

/-- A register that is not live is neither of the two a refresh stores (R104, R105). -/
theorem ne_of_not_isLive {r : Reg} (h : r.isLive = false) : r ≠ .milliseconds ∧ r ≠ .seconds := by
  simpa [Reg.isLive] using h

/-! ## What a read and a write do, for every register at once -/

/-- The state in which a read of `r` finds its value: refreshed if `r` is live (R104, R105), as it is otherwise (R72). -/
def State.refreshFor (s : State) (r : Reg) : State := if r.isLive then s.storeRefreshed else s

/-- The content a write of `r` stores, given the old content and the merged value: the latch acts on CTRL alone
(R72, R106, R107, R117). -/
def storedOn (r : Reg) (old new : Word) : Word := if r = .ctrl then applyWrite old new else new

/-- The base a write of `r` moves: its own if `r` is live, none otherwise (R72, R106, R107). -/
def State.rebaseFor (s : State) (r : Reg) (v : Word) : State :=
  match r with
  | .milliseconds => s.rebaseMs v
  | .seconds => s.rebaseSec v
  | _ => s

/-- A read of any register returns the cell as the read leaves it (R72, R104, R105, R116). -/
theorem exec_readOf (r : Reg) (size : Size) (sub : SubOffset) (s : State) :
    exec (readOf r size sub) s = .next ((s.refreshFor r).respond ((s.refreshFor r).get r)) := by
  cases r <;> rfl

/-- A write of any register merges, stores, rebases and returns 0 (R72, R106, R107, R117). -/
theorem exec_writeOf (r : Reg) (size : Size) (sub : SubOffset) (wdata : Word) (s : State) :
    exec (writeOf r size sub wdata) s =
      .next (((s.set r (storedOn r (s.get r) (merge (s.get r) sub size wdata))).rebaseFor r
        (merge (s.get r) sub size wdata)).respond 0) := by
  cases r <;> rfl

theorem exec_rdBad (idx : Index) (size : Size) (sub : SubOffset) (s : State) :
    exec (.rdBad idx size sub) s = .next (raiseBadOffset .read (idx ++ sub) s) := rfl

theorem exec_wrBad (idx : Index) (size : Size) (sub : SubOffset) (wdata : Word) (s : State) :
    exec (.wrBad idx size sub wdata) s = .next (raiseBadOffset .write (idx ++ sub) s) := rfl

section
variable (s : State) (r r' : Reg) (v : Word)

theorem refreshFor_of_not_isLive {s : State} {r : Reg} (h : r.isLive = false) : s.refreshFor r = s := by
  simp [State.refreshFor, h]

/-- A read moves no base (R22). -/
@[simp] theorem refreshFor_baseMs : (s.refreshFor r).baseMs = s.baseMs := by
  unfold State.refreshFor; split <;> rfl

@[simp] theorem refreshFor_baseSec : (s.refreshFor r).baseSec = s.baseSec := by
  unfold State.refreshFor; split <;> rfl

/-- A read keeps the cells of the registers that are not live (R38). -/
theorem get_refreshFor_of_not_isLive {r' : Reg} (h : r'.isLive = false) : (s.refreshFor r).get r' = s.get r' := by
  obtain ⟨hms, hsec⟩ := ne_of_not_isLive h
  unfold State.refreshFor
  split
  · simp [hms, hsec]
  · rfl

/-- Rebasing stores into no cell (R102, R103). -/
@[simp] theorem get_rebaseFor : (s.rebaseFor r v).get r' = s.get r' := by cases r <;> rfl

/-- A write of any register stores into its own cell and keeps the others (R38, R72). -/
theorem get_of_exec_writeOf {r : Reg} {size : Size} {sub : SubOffset} {wdata : Word} {s t : State}
    (h : exec (writeOf r size sub wdata) s = .next t) (r' : Reg) :
    t.get r' = if r' = r then storedOn r (s.get r) (merge (s.get r) sub size wdata) else s.get r' := by
  rw [exec_writeOf] at h
  cases h
  rw [get_respond, get_rebaseFor, state_get_set]

theorem rebaseFor_baseMs (h : r ≠ .milliseconds) : (s.rebaseFor r v).baseMs = s.baseMs := by
  cases r <;> simp_all [State.rebaseFor]

theorem rebaseFor_baseSec (h : r ≠ .seconds) : (s.rebaseFor r v).baseSec = s.baseSec := by
  cases r <;> simp_all [State.rebaseFor]

end

/-! ## The updates commute with a store into another cell (R12) -/

section
variable (s : State) (r r' : Reg) (v v' : Word)

theorem state_set_comm (h : r ≠ r') : (s.set r v).set r' v' = (s.set r' v').set r v := by
  unfold State.set
  rw [regFile_set_comm s.regs r r' v v' h]

theorem respond_set : (s.set r v).respond v' = (s.respond v').set r v := rfl

theorem raiseBadOffset_set (d : Dir) (a : Offset) :
    raiseBadOffset d a (s.set r v) = (raiseBadOffset d a s).set r v := rfl

theorem rebaseFor_set : (s.set r v).rebaseFor r' v' = (s.rebaseFor r' v').set r v := by cases r' <;> rfl

/-- A refresh uses no cell, and stores into the live ones only (R101). -/
theorem storeRefreshed_set {r : Reg} (h : r.isLive = false) :
    (s.set r v).storeRefreshed = s.storeRefreshed.set r v := by
  obtain ⟨hms, hsec⟩ := ne_of_not_isLive h
  calc (s.set r v).storeRefreshed
      = ((s.set r v).set .milliseconds s.refresh.1).set .seconds s.refresh.2 := rfl
    _ = s.storeRefreshed.set r v := by
      rw [state_set_comm s r .milliseconds v s.refresh.1 hms, state_set_comm _ r .seconds v s.refresh.2 hsec]
      rfl

theorem refreshFor_set {r : Reg} (h : r.isLive = false) : (s.set r v).refreshFor r' = (s.refreshFor r').set r v := by
  unfold State.refreshFor
  split
  · exact storeRefreshed_set s v h
  · rfl

end

/-! ## The bits of a merge and of the latch (R55, R115) -/

section
variable (old new wdata : Word) (sub : SubOffset) (size : Size)

/-- The mask of R55 is as many one bits as the access has. -/
theorem valueMask_eq (w : Width) : valueMask w = (BitVec.allOnes (8 * widthBytes w)).setWidth 32 := by
  cases w <;> rfl

/-- The shift of R55 is the position of the first addressed lane (R53). -/
theorem laneShift_widthOf : laneShift (widthOf size) sub = 8 * firstLane size sub := by
  unfold laneShift firstLane
  cases widthOf size <;> simp [BitVec.extractLsb'_toNat, Nat.shiftRight_eq_div_pow]
  omega

/-- The bits of a merge: the addressed lanes come from the value, the others are the old ones (R55). -/
theorem getLsbD_merge {i : Nat} (hi : i < 32) :
    (merge old sub size wdata).getLsbD i =
      if addressesLane size sub (i / 8) = true then wdata.getLsbD (i - 8 * firstLane size sub) else old.getLsbD i := by
  have haddr : addressesLane size sub (i / 8) = true ↔
      8 * firstLane size sub ≤ i ∧ i - 8 * firstLane size sub < 8 * widthBytes (widthOf size) := by
    simp only [addressesLane, Bool.and_eq_true, decide_eq_true_eq]
    omega
  have hsub : i - 8 * firstLane size sub < 32 := by omega
  simp only [haddr, merge, laneShift_widthOf, valueMask_eq, BitVec.getLsbD_or, BitVec.getLsbD_and, BitVec.getLsbD_not,
    BitVec.getLsbD_shiftLeft, BitVec.getLsbD_setWidth, BitVec.getLsbD_allOnes, hi, hsub, decide_true, Bool.true_and]
  by_cases hlow : i < 8 * firstLane size sub
  · have : ¬ 8 * firstLane size sub ≤ i := by omega
    simp [hlow, this]
  · have : 8 * firstLane size sub ≤ i := by omega
    by_cases hwidth : i - 8 * firstLane size sub < 8 * widthBytes (widthOf size) <;> simp [hlow, this, hwidth]

/-- A 4-byte write replaces the whole cell (R55). -/
theorem merge_word : merge old sub 2 wdata = wdata := by
  have hmask : valueMask (widthOf 2) = BitVec.allOnes 32 := rfl
  have hshift : laneShift (widthOf 2) sub = 0 := rfl
  unfold merge
  rw [hmask, hshift]
  simp only [BitVec.shiftLeft_zero, BitVec.not_allOnes, BitVec.and_zero, BitVec.zero_or, BitVec.and_allOnes]

/-- A 4-byte write of any register stores its value, through the latch on CTRL (R55, R117). -/
theorem exec_writeOf_word (r : Reg) (s : State) :
    ∃ t, exec (writeOf r 2 sub wdata) s = .next t ∧ t.get r = storedOn r (s.get r) wdata := by
  have hexec := exec_writeOf r 2 sub wdata s
  refine ⟨_, hexec, (get_of_exec_writeOf hexec r).trans ?_⟩
  rw [if_pos rfl, merge_word]

/-- The latch adds bit 30 when it fires, and nothing else (R115). -/
theorem getLsbD_applyWrite (i : Nat) :
    (applyWrite old new).getLsbD i = (new.getLsbD i || (latchFires old new && decide (i = 30))) := by
  have hbit : (0x40000000 : Word) = BitVec.twoPow 32 30 := rfl
  unfold applyWrite
  split
  · next hf => simp [hf, hbit, BitVec.getLsbD_or, BitVec.getLsbD_twoPow, eq_comm]
  · next hf => simp [hf]

/-- A lane is its eight bits (R34). -/
theorem lane_congr {v w : Word} {k : Nat} (h : ∀ j < 8, v.getLsbD (8 * k + j) = w.getLsbD (8 * k + j)) :
    lane v k = lane w k := by
  apply BitVec.eq_of_getLsbD_eq
  intro j hj
  simp [lane, hj, h j hj]

/-- A write keeps the lanes it does not address; on CTRL the latch needs a new bit 31, so that it fires only when lane 3,
which holds bit 30, is addressed (R34, R55, R117). -/
theorem lane_storedOn_merge (r : Reg) {k : Nat} (hk : k < 4) (hout : addressesLane size sub k = false) :
    lane (storedOn r old (merge old sub size wdata)) k = lane old k := by
  have hkeep : ∀ j < 8, (merge old sub size wdata).getLsbD (8 * k + j) = old.getLsbD (8 * k + j) := by
    intro j hj
    have hlane : (8 * k + j) / 8 = k := by omega
    rw [getLsbD_merge _ _ _ _ (by omega), hlane, hout]
    simp
  apply lane_congr
  intro j hj
  unfold storedOn
  split
  · have hquiet : (latchFires old (merge old sub size wdata) && decide (8 * k + j = 30)) = false := by
      by_cases h30 : 8 * k + j = 30
      · obtain rfl : k = 3 := by omega
        have h31 : (merge old sub size wdata).getLsbD 31 = old.getLsbD 31 := hkeep 7 (by omega)
        rw [latchFires, gateReq, gateReq, h31, Bool.and_not_self, Bool.false_and]
      · simp [h30]
    rw [getLsbD_applyWrite, hkeep j hj, hquiet, Bool.or_false]
  · exact hkeep j hj

end

/-- Two states agree on the byte behind an offset when they agree on that lane of the selected cell (R31, R34). -/
theorem storedByte_congr {s t : State} {a : Offset}
    (h : ∀ r, regOfIdx (a.extractLsb' 4 9) = some r → lane (t.get r) (a.toNat % 4) = lane (s.get r) (a.toNat % 4)) :
    t.storedByte a = s.storedByte a :=
  Option.map_congr h

/-- The cycle of a write performs that write at the cycle's sample (R50, R57). -/
theorem clockCycle_writeCycle (r : Reg) (size : Size) (sub : SubOffset) (wdata : Word) (q : Sample) (s : State) :
    clockCycle (writeCycle r size sub wdata q) s = exec (writeOf r size sub wdata) { s with sample := q } := by
  have hop : (writeCycle r size sub wdata q).operation = writeOf r size sub wdata :=
    decode_packCw_write r size sub wdata
  rw [← hop]
  rfl

end Sys2Proof.Machine
end

section
/-! The statements about the state: what an operation leaves unchanged, what it does not depend on, and reset (spec
10_state.md). -/

namespace Sys2Proof.Machine

/-- Settles O24: bytes of another register by the read-after-write law, bytes of the same register by the lanes a merge
keeps. -/
theorem storedBytesOutsideAnAccessAreUnchanged : Obligations.StoredBytesOutsideAnAccessAreUnchanged := by
  intro size sub wdata s a
  refine ⟨fun r t hexec hout => ?_, fun r t hlive hexec => ?_, fun idx t hexec => ?_⟩
  · apply storedByte_congr
    intro r' hsel
    rw [get_of_exec_writeOf hexec r']
    split
    · next heq =>
      subst heq
      have hlane := hout.resolve_left (fun hne => hne hsel)
      exact lane_storedOn_merge _ _ _ _ _ (Nat.mod_lt _ (by decide)) hlane
    · rfl
  · rw [exec_readOf, refreshFor_of_not_isLive hlive] at hexec
    cases hexec
    rfl
  · rw [exec_rdBad, exec_wrBad] at hexec
    rcases hexec with h | h <;> cases h <;> rfl

/-- Settles O34, by the form of the operation; a 4-byte merge is the value. -/
theorem cellsChangeOnlyByTheirOwnOperations : Obligations.CellsChangeOnlyByTheirOwnOperations := by
  refine ⟨fun i s t r hexec hne => ?_, fun r sub v s => ?_⟩
  · cases i using instr_cases with
    | read r' size sub =>
      rw [exec_readOf] at hexec
      cases hexec
      rw [get_respond] at hne
      have hr : r.isLive = true := by
        by_contra hr
        exact hne (get_refreshFor_of_not_isLive s r' (by simpa using hr))
      have hr' : r'.isLive = true := by
        by_contra hr'
        rw [refreshFor_of_not_isLive (by simpa using hr')] at hne
        exact hne rfl
      exact .inr ⟨hr, isWrite_readOf .., r', target_readOf .., hr'⟩
    | write r' size sub wdata =>
      rw [get_of_exec_writeOf hexec r] at hne
      have hr : r = r' := by
        by_contra hr
        exact hne (if_neg hr)
      subst hr
      exact .inl ⟨target_writeOf .., isWrite_writeOf ..⟩
    | rdBad idx size sub =>
      rw [exec_rdBad] at hexec
      cases hexec
      exact absurd rfl hne
    | wrBad idx size sub wdata =>
      rw [exec_wrBad] at hexec
      cases hexec
      exact absurd rfl hne
  · obtain ⟨t, hexec, hget⟩ := exec_writeOf_word v sub r s
    refine ⟨t, hexec, hget.trans ?_⟩
    unfold storedOn
    split
    · next hr => rw [hr]; rfl
    · rfl

/-- Settles O35, by the form of the operation: only `rebaseFor` touches a base. -/
theorem basesChangeOnlyByWritesOfTheirRegister : Obligations.BasesChangeOnlyByWritesOfTheirRegister := by
  intro i s t hexec
  cases i using instr_cases with
  | read r size sub =>
    rw [exec_readOf] at hexec
    cases hexec
    exact ⟨fun hne => absurd (refreshFor_baseMs s r) hne, fun hne => absurd (refreshFor_baseSec s r) hne⟩
  | write r size sub wdata =>
    rw [exec_writeOf] at hexec
    cases hexec
    constructor <;> intro hne
    · obtain rfl : r = .milliseconds := by
        by_contra hr
        exact hne (rebaseFor_baseMs _ r _ hr)
      exact ⟨size, sub, wdata, rfl⟩
    · obtain rfl : r = .seconds := by
        by_contra hr
        exact hne (rebaseFor_baseSec _ r _ hr)
      exact ⟨size, sub, wdata, rfl⟩
  | rdBad idx size sub =>
    rw [exec_rdBad] at hexec
    cases hexec
    exact ⟨fun hne => absurd rfl hne, fun hne => absurd rfl hne⟩
  | wrBad idx size sub wdata =>
    rw [exec_wrBad] at hexec
    cases hexec
    exact ⟨fun hne => absurd rfl hne, fun hne => absurd rfl hne⟩

/-- Settles O45, by the form of the operation: each of its updates commutes with a store into another cell. -/
theorem storageCellsInfluenceNoOtherOperation : Obligations.StorageCellsInfluenceNoOtherOperation := by
  intro i r v s hlive htarget
  cases i using instr_cases with
  | read r' size sub =>
    have hr : r' ≠ r := by simpa using htarget
    rw [exec_readOf, exec_readOf, refreshFor_set s r' v hlive, respond_set, state_get_set, if_neg hr]
    rfl
  | write r' size sub wdata =>
    have hr : r' ≠ r := by simpa using htarget
    rw [exec_writeOf, exec_writeOf, state_get_set, if_neg hr, state_set_comm s r r' _ _ hr.symm, rebaseFor_set,
      respond_set]
    rfl
  | rdBad idx size sub => rw [exec_rdBad, exec_rdBad, raiseBadOffset_set]; rfl
  | wrBad idx size sub wdata => rw [exec_wrBad, exec_wrBad, raiseBadOffset_set]; rfl

/-- With both bases 0 a refresh gives the raw sample (R24). -/
theorem refresh_of_bases_zero {s : State} (hms : s.baseMs = 0) (hsec : s.baseSec = 0) :
    s.refresh = (s.sample.nowMs, s.sample.nowSec) := by
  simp [State.refresh, hms, hsec]

/-- Settles O9: the stated values are those of `State.reset`, and its bases are 0. -/
theorem resetStateHoldsTheStatedValues : Obligations.ResetStateHoldsTheStatedValues := by
  have hcells : ∀ r : Reg, r ≠ .ctrl → r ≠ .stat → r ≠ .version → State.reset.get r = 0 := by
    intro r hctrl hstat hversion
    cases r <;> simp_all [State.get, RegFile.get, State.reset, RegFile.reset]
  refine ⟨rfl, rfl, rfl, hcells, rfl, rfl, rfl, fun q size sub => ?_⟩
  have hraw : ({ State.reset with sample := q } : State).refresh = (q.nowMs, q.nowSec) :=
    refresh_of_bases_zero rfl rfl
  exact ⟨⟨_, rfl, congrArg Prod.fst hraw⟩, ⟨_, rfl, congrArg Prod.snd hraw⟩⟩

/-- Settles O29: the cycle is the 4-byte write of CTRL, and bit 31 is already set after reset. -/
theorem firstGateRequestAfterResetClearsTheAck : Obligations.FirstGateRequestAfterResetClearsTheAck := by
  intro sub q
  obtain ⟨t, hexec, hget⟩ := exec_writeOf_word 0x80000000 sub .ctrl { State.reset with sample := q }
  have hcycle := (clockCycle_writeCycle .ctrl 2 sub 0x80000000 q State.reset).trans hexec
  have hquiet : storedOn .ctrl State.reset.regs.ctrl 0x80000000 = 0x80000000 := by decide
  exact ⟨{ t with inputs := [] }, (runCycles_cons hcycle).trans (runCycles_nil t), hget.trans hquiet⟩

end Sys2Proof.Machine
end

section
/-! SUPPORT. The bits of a lane, the part of an access that a merge sees, and reading twice (spec 20_memory.md R34, R36,
30_encoding.md R53 to R55, 41_timebase.md R101, R104, R105). -/

namespace Sys2Proof.Machine

/-! ## Lanes (R34) -/

/-- Bit `j` of lane `k` is bit `8k + j` of the cell (R34). -/
theorem getLsbD_lane (v : Word) (k : Nat) {j : Nat} (hj : j < 8) : (lane v k).getLsbD j = v.getLsbD (8 * k + j) := by
  simp [lane, hj]

/-- An addressed lane is not below the first one (R36, R53). -/
theorem firstLane_le_of_addressesLane {size : Size} {sub : SubOffset} {k : Nat}
    (h : addressesLane size sub k = true) : firstLane size sub ≤ k := by
  simp only [addressesLane, Bool.and_eq_true, decide_eq_true_eq] at h
  exact h.1

/-! ## What a write sees of `size` and `sub`: the width and the lane shift (R36, R53, R55) -/

/-- Accesses of one width and one lane shift merge alike (R55). -/
theorem merge_congr_access {size size' : Size} {sub sub' : SubOffset} (hwidth : widthOf size = widthOf size')
    (hshift : laneShift (widthOf size) sub = laneShift (widthOf size') sub') (old value : Word) :
    merge old sub size value = merge old sub' size' value := by
  unfold merge
  rw [hshift, hwidth]

/-- A write of any register uses `size` and `sub` in the merge alone (R72, R106, R107, R117). -/
theorem exec_writeOf_congr_access {size size' : Size} {sub sub' : SubOffset} {r : Reg} {wdata : Word} {s : State}
    (hwidth : widthOf size = widthOf size') (hshift : laneShift (widthOf size) sub = laneShift (widthOf size') sub') :
    exec (writeOf r size sub wdata) s = exec (writeOf r size' sub' wdata) s := by
  rw [exec_writeOf, exec_writeOf, merge_congr_access hwidth hshift]

/-- The lane shift of a 1-byte access uses `sub[1:0]` alone (R53). -/
theorem laneShift_byte_congr {sub sub' : SubOffset} (h : sub.extractLsb' 0 2 = sub'.extractLsb' 0 2) :
    laneShift .byte sub = laneShift .byte sub' := by
  unfold laneShift
  rw [h]

/-- The lane shift of a 2-byte access uses `sub[1]` alone (R36, R53). -/
theorem laneShift_half_congr {sub sub' : SubOffset} (h : sub.getLsbD 1 = sub'.getLsbD 1) :
    laneShift .half sub = laneShift .half sub' := by
  have hfield : sub.extractLsb' 1 1 = sub'.extractLsb' 1 1 := by
    apply BitVec.eq_of_getLsbD_eq
    intro i hi
    obtain rfl : i = 0 := by omega
    simpa using h
  unfold laneShift
  rw [hfield]

/-! ## Reading twice (R101, R104, R105) -/

/-- A refresh at the sample of the one before it stores the same values again (R101). -/
theorem storeRefreshed_storeRefreshed (s : State) : s.storeRefreshed.storeRefreshed = s.storeRefreshed := by
  rw [storeRefreshed_eq s]
  rfl

theorem refreshFor_refreshFor (s : State) (r : Reg) : (s.refreshFor r).refreshFor r = s.refreshFor r := by
  cases hr : r.isLive with
  | false => rw [refreshFor_of_not_isLive hr, refreshFor_of_not_isLive hr]
  | true => simp only [State.refreshFor, hr, if_true, storeRefreshed_storeRefreshed]

/-- A refresh uses no response and leaves it (R101). -/
theorem refreshFor_respond (s : State) (r : Reg) (v : Word) :
    (s.respond v).refreshFor r = (s.refreshFor r).respond v := by
  unfold State.refreshFor
  split <;> rfl

theorem respond_respond (s : State) (v v' : Word) : (s.respond v).respond v' = s.respond v' := rfl

end Sys2Proof.Machine
end

section
/-! The statements about the byte lanes, repeated reads and the offsets that stand for one access (spec 20_memory.md). -/

namespace Sys2Proof.Machine

/-- Settles O23, bit by bit: bit `j` of an addressed lane `k` comes from bit `8 (k - first) + j` of the value. -/
theorem mergeReplacesOnlyTheAddressedLanes : Obligations.MergeReplacesOnlyTheAddressedLanes := by
  intro old sub size value k hk
  apply BitVec.eq_of_getLsbD_eq
  intro j hj
  have hlane : (8 * k + j) / 8 = k := by omega
  rw [getLsbD_lane _ _ hj, getLsbD_merge _ _ _ _ (by omega), hlane]
  split
  · next haddr =>
    have hfirst := firstLane_le_of_addressesLane haddr
    have hbit : 8 * k + j - 8 * firstLane size sub = 8 * (k - firstLane size sub) + j := by omega
    rw [getLsbD_lane _ _ hj, hbit]
  · rw [getLsbD_lane _ _ hj]

/-- Settles O41: the second refresh finds both live cells refreshed already, and the second response overwrites the
first. -/
theorem readsAreIdempotent : Obligations.ReadsAreIdempotent := by
  intro i s t hread htarget hexec
  cases i using instr_cases with
  | read r size sub =>
    rw [exec_readOf] at hexec
    cases hexec
    rw [exec_readOf, refreshFor_respond, refreshFor_refreshFor, get_respond, respond_respond]
  | write r size sub wdata =>
    rw [isWrite_writeOf] at hread
    contradiction
  | rdBad idx size sub => exact absurd rfl htarget
  | wrBad idx size sub wdata => exact absurd rfl htarget

/-- Settles O43: each pair of writes has one width and one lane shift, and a read sees neither `size` nor `sub`. -/
theorem windowOffsetsAliasAndReservedSizeIsFourBytes : Obligations.WindowOffsetsAliasAndReservedSizeIsFourBytes := by
  intro r sub sub' wdata s
  refine ⟨fun hpos => ?byte, fun hpos => ?half, ?word, ?reservedWrite, ?reservedRead⟩
  case byte => exact exec_writeOf_congr_access rfl (laneShift_byte_congr hpos)
  case half => exact exec_writeOf_congr_access rfl (laneShift_half_congr hpos)
  case word => exact exec_writeOf_congr_access rfl rfl
  case reservedWrite => exact exec_writeOf_congr_access rfl rfl
  case reservedRead => rw [exec_readOf, exec_readOf]

end Sys2Proof.Machine
end

section
/-! SUPPORT. Decoding by direction and index, the encoding of each form of operation, and the one row of the opcode
table that a command word selects (spec 30_encoding.md R51, R52, R57). -/

namespace Sys2Proof.Machine

/-! ## Encoding and decoding of the four forms (R51, R57) -/

section
variable (r : Reg) (size : Size) (sub : SubOffset) (wdata : Word) (cw : CommandWord)

@[simp] theorem encode_readOf : encode (readOf r size sub) = (packCw false size r.idx sub, 0) := by cases r <;> rfl
@[simp] theorem encode_writeOf : encode (writeOf r size sub wdata) = (packCw true size r.idx sub, wdata) := by
  cases r <;> rfl
@[simp] theorem wf_readOf : (readOf r size sub).wf = true := by cases r <;> rfl
@[simp] theorem wf_writeOf : (writeOf r size sub wdata).wf = true := by cases r <;> rfl

/-- The command word of a defined read decodes to it (R57). -/
theorem decode_packCw_read : decode (packCw false size r.idx sub) wdata = readOf r size sub := by
  simp [decode]

/-- An index that selects no register decodes to RD.BAD on a read (R57). -/
theorem decode_packCw_rdBad {idx : Index} (h : badIndex idx = true) :
    decode (packCw false size idx sub) wdata = .rdBad idx size sub := by
  simp [decode, (regOfIdx_eq_none idx).mpr h]

/-- An index that selects no register decodes to WR.BAD on a write (R57). -/
theorem decode_packCw_wrBad {idx : Index} (h : badIndex idx = true) :
    decode (packCw true size idx sub) wdata = .wrBad idx size sub wdata := by
  simp [decode, (regOfIdx_eq_none idx).mpr h]

/-- Case split of a command word by direction and register (R51, R52). -/
theorem commandWord_cases {motive : CommandWord → Prop}
    (read : ∀ (r : Reg) size sub, motive (packCw false size r.idx sub))
    (write : ∀ (r : Reg) size sub, motive (packCw true size r.idx sub))
    (rdBad : ∀ idx size sub, badIndex idx = true → motive (packCw false size idx sub))
    (wrBad : ∀ idx size sub, badIndex idx = true → motive (packCw true size idx sub)) : ∀ cw, motive cw := by
  intro cw
  rw [← packCw_fields cw]
  cases hsel : regOfIdx (cwIdx cw) with
  | some r =>
    rw [idx_of_regOfIdx hsel]
    cases cwWe cw with
    | false => exact read r _ _
    | true => exact write r _ _
  | none =>
    have hbad := (regOfIdx_eq_none _).mp hsel
    cases cwWe cw with
    | false => exact rdBad _ _ _ hbad
    | true => exact wrBad _ _ _ hbad

/-- The direction of the decoded operation is `CW[15]` (R51, R57). -/
@[simp] theorem isWrite_decode : (decode cw wdata).isWrite = cwWe cw := by
  cases cw using commandWord_cases with
  | read r size sub => rw [decode_packCw_read, isWrite_readOf, cwWe_packCw]
  | write r size sub => rw [decode_packCw_write, isWrite_writeOf, cwWe_packCw]
  | rdBad idx size sub hbad => rw [decode_packCw_rdBad _ _ _ hbad, cwWe_packCw]; rfl
  | wrBad idx size sub hbad => rw [decode_packCw_wrBad _ _ _ hbad, cwWe_packCw]; rfl

/-- The register of the decoded operation is the one that `CW[12:4]` selects (R52, R57). -/
@[simp] theorem target_decode : (decode cw wdata).target = regOfIdx (cwIdx cw) := by
  cases cw using commandWord_cases with
  | read r size sub => rw [decode_packCw_read, target_readOf, cwIdx_packCw, regOfIdx_idx]
  | write r size sub => rw [decode_packCw_write, target_writeOf, cwIdx_packCw, regOfIdx_idx]
  | rdBad idx size sub hbad =>
    rw [decode_packCw_rdBad _ _ _ hbad, cwIdx_packCw, (regOfIdx_eq_none idx).mpr hbad]; rfl
  | wrBad idx size sub hbad =>
    rw [decode_packCw_wrBad _ _ _ hbad, cwIdx_packCw, (regOfIdx_eq_none idx).mpr hbad]; rfl

/-- What the decoded operation tells of its word (R57). -/
theorem direction_and_target_of_decode {cw : CommandWord} {i : Instr} (h : decode cw wdata = i) :
    cwWe cw = i.isWrite ∧ regOfIdx (cwIdx cw) = i.target := by
  rw [← h, isWrite_decode, target_decode]
  exact ⟨rfl, rfl⟩

/-- Decoding gives the read of `r` exactly on the read words with the index of `r` (R57). -/
theorem decode_eq_readOf_iff :
    decode cw wdata = readOf r (cwSize cw) (cwSub cw) ↔ cwWe cw = false ∧ cwIdx cw = r.idx := by
  constructor
  · intro h
    obtain ⟨hwe, hsel⟩ := direction_and_target_of_decode wdata h
    rw [isWrite_readOf] at hwe
    rw [target_readOf] at hsel
    exact ⟨hwe, idx_of_regOfIdx hsel⟩
  · rintro ⟨hwe, hidx⟩
    simp [decode, hwe, hidx]

/-- Decoding gives the write of `r` exactly on the write words with the index of `r` (R57). -/
theorem decode_eq_writeOf_iff :
    decode cw wdata = writeOf r (cwSize cw) (cwSub cw) wdata ↔ cwWe cw = true ∧ cwIdx cw = r.idx := by
  constructor
  · intro h
    obtain ⟨hwe, hsel⟩ := direction_and_target_of_decode wdata h
    rw [isWrite_writeOf] at hwe
    rw [target_writeOf] at hsel
    exact ⟨hwe, idx_of_regOfIdx hsel⟩
  · rintro ⟨hwe, hidx⟩
    simp [decode, hwe, hidx]

/-- An index selects no register exactly when it is 14 or more (R52, R135). -/
theorem regOfIdx_eq_none_iff (idx : Index) : regOfIdx idx = none ↔ 14 ≤ idx.toNat :=
  (regOfIdx_eq_none idx).trans decide_eq_true_iff

/-- Decoding gives RD.BAD exactly on the read words with an index of 14 or more (R57). -/
theorem decode_eq_rdBad_iff :
    decode cw wdata = .rdBad (cwIdx cw) (cwSize cw) (cwSub cw) ↔ cwWe cw = false ∧ 14 ≤ (cwIdx cw).toNat := by
  rw [← regOfIdx_eq_none_iff]
  constructor
  · exact direction_and_target_of_decode wdata
  · rintro ⟨hwe, hsel⟩
    simp [decode, hwe, hsel]

/-- Decoding gives WR.BAD exactly on the write words with an index of 14 or more (R57). -/
theorem decode_eq_wrBad_iff :
    decode cw wdata = .wrBad (cwIdx cw) (cwSize cw) (cwSub cw) wdata ↔ cwWe cw = true ∧ 14 ≤ (cwIdx cw).toNat := by
  rw [← regOfIdx_eq_none_iff]
  constructor
  · exact direction_and_target_of_decode wdata
  · rintro ⟨hwe, hsel⟩
    simp [decode, hwe, hsel]

/-- Masking out `size` and `sub` leaves a word that fixes direction and index, and no more (R57). -/
theorem and_selectionMask_eq_iff (we : Bool) (idx : Index) :
    cw &&& 0x9FF0 = packCw we 0 idx 0 ↔ cwWe cw = we ∧ cwIdx cw = idx := by
  have hmask : cw &&& 0x9FF0 = packCw (cwWe cw) 0 (cwIdx cw) 0 := by
    rw [← packCw_and_selectionMask _ (cwSize cw) _ (cwSub cw), packCw_fields]
  rw [hmask]
  constructor
  · intro h
    have hwe := congrArg cwWe h
    have hidx := congrArg cwIdx h
    rw [cwWe_packCw, cwWe_packCw] at hwe
    rw [cwIdx_packCw, cwIdx_packCw] at hidx
    exact ⟨hwe, hidx⟩
  · rintro ⟨hwe, hidx⟩
    rw [hwe, hidx]

/-- The mask and match of a defined read select exactly its words (R57). -/
theorem selectionMask_read :
    cw &&& 0x9FF0 = packCw false 0 r.idx 0 ↔ decode cw wdata = readOf r (cwSize cw) (cwSub cw) := by
  rw [and_selectionMask_eq_iff, decode_eq_readOf_iff]

/-- The mask and match of a defined write select exactly its words (R57). -/
theorem selectionMask_write :
    cw &&& 0x9FF0 = packCw true 0 r.idx 0 ↔ decode cw wdata = writeOf r (cwSize cw) (cwSub cw) wdata := by
  rw [and_selectionMask_eq_iff, decode_eq_writeOf_iff]

end

/-! ## The one row of a command word (R57) -/

/-- The table has a row for the encoding of every well-formed operation. -/
theorem tableRow : ∀ i : Instr, Laws.TableRow.Statement i
  | .rdCtrl size sub => Laws.TableRow.rdCtrl size sub
  | .wrCtrl size sub wdata => Laws.TableRow.wrCtrl size sub wdata
  | .rdStat size sub => Laws.TableRow.rdStat size sub
  | .wrStat size sub wdata => Laws.TableRow.wrStat size sub wdata
  | .rdMilliseconds size sub => Laws.TableRow.rdMilliseconds size sub
  | .wrMilliseconds size sub wdata => Laws.TableRow.wrMilliseconds size sub wdata
  | .rdSeconds size sub => Laws.TableRow.rdSeconds size sub
  | .wrSeconds size sub wdata => Laws.TableRow.wrSeconds size sub wdata
  | .rdAlarm size sub => Laws.TableRow.rdAlarm size sub
  | .wrAlarm size sub wdata => Laws.TableRow.wrAlarm size sub wdata
  | .rdWatchdog size sub => Laws.TableRow.rdWatchdog size sub
  | .wrWatchdog size sub wdata => Laws.TableRow.wrWatchdog size sub wdata
  | .rdPersistent0 size sub => Laws.TableRow.rdPersistent0 size sub
  | .wrPersistent0 size sub wdata => Laws.TableRow.wrPersistent0 size sub wdata
  | .rdPersistent1 size sub => Laws.TableRow.rdPersistent1 size sub
  | .wrPersistent1 size sub wdata => Laws.TableRow.wrPersistent1 size sub wdata
  | .rdPersistent2 size sub => Laws.TableRow.rdPersistent2 size sub
  | .wrPersistent2 size sub wdata => Laws.TableRow.wrPersistent2 size sub wdata
  | .rdPersistent3 size sub => Laws.TableRow.rdPersistent3 size sub
  | .wrPersistent3 size sub wdata => Laws.TableRow.wrPersistent3 size sub wdata
  | .rdPersistent4 size sub => Laws.TableRow.rdPersistent4 size sub
  | .wrPersistent4 size sub wdata => Laws.TableRow.wrPersistent4 size sub wdata
  | .rdPersistent5 size sub => Laws.TableRow.rdPersistent5 size sub
  | .wrPersistent5 size sub wdata => Laws.TableRow.wrPersistent5 size sub wdata
  | .rdDebug size sub => Laws.TableRow.rdDebug size sub
  | .wrDebug size sub wdata => Laws.TableRow.wrDebug size sub wdata
  | .rdVersion size sub => Laws.TableRow.rdVersion size sub
  | .wrVersion size sub wdata => Laws.TableRow.wrVersion size sub wdata
  | .rdBad idx size sub => Laws.TableRow.rdBad idx size sub
  | .wrBad idx size sub wdata => Laws.TableRow.wrBad idx size sub wdata

/-- Any two rows ask for different bits under the mask they share (R57). -/
theorem opcodeTable_disjoint : opcodeTable.Pairwise fun a b => a.pattern &&& b.mask ≠ b.pattern &&& a.mask := by
  decide

/-- Rows that both select a word agree under the mask they share (R51). -/
theorem pattern_and_mask_of_selects {a b : OpcodeRow} {cw : CommandWord} (ha : a.selects cw = true)
    (hb : b.selects cw = true) : a.pattern &&& b.mask = b.pattern &&& a.mask := by
  unfold OpcodeRow.selects at ha hb
  rw [← eq_of_beq ha, ← eq_of_beq hb, BitVec.and_assoc, BitVec.and_assoc, BitVec.and_comm a.mask]

/-- The rows that select a word are just the one, once one is found (R57). -/
theorem filter_selects_eq {row : OpcodeRow} {cw : CommandWord} (hmem : row ∈ opcodeTable)
    (hsel : row.selects cw = true) : opcodeTable.filter (fun r => r.selects cw) = [row] := by
  have hin : row ∈ opcodeTable.filter (fun r => r.selects cw) := List.mem_filter.mpr ⟨hmem, hsel⟩
  have hdisjoint := opcodeTable_disjoint.filter (fun r => r.selects cw)
  have hall : ∀ r ∈ opcodeTable.filter (fun r => r.selects cw), r.selects cw = true :=
    fun r hr => (List.mem_filter.mp hr).2
  generalize opcodeTable.filter (fun r => r.selects cw) = rows at *
  match rows with
  | [] => exact absurd hin List.not_mem_nil
  | [a] => rw [List.mem_singleton.mp hin]
  | a :: b :: rest =>
    have hne := List.rel_of_pairwise_cons hdisjoint List.mem_cons_self
    exact absurd (pattern_and_mask_of_selects (hall a (by simp)) (hall b (by simp))) hne

/-- The BAD rows are those with a BAD mnemonic (R57). -/
theorem mem_badRows_iff : ∀ row ∈ opcodeTable, row ∈ badRows ↔ row.mnemonic = "RD.BAD" ∨ row.mnemonic = "WR.BAD" := by
  decide

/-- The operations with a BAD mnemonic are those that are for no register (R57). -/
theorem mnemonic_bad_iff (i : Instr) : i.mnemonic = "RD.BAD" ∨ i.mnemonic = "WR.BAD" ↔ i.target = none := by
  cases i <;> simp [Instr.mnemonic, Instr.target]

/-- The BAD rows are rows of the table. -/
theorem mem_opcodeTable_of_mem_badRows {row : OpcodeRow} (h : row ∈ badRows) : row ∈ opcodeTable :=
  List.mem_append_right _ h

end Sys2Proof.Machine
end

section
/-! The statements about the encoding (spec 30_encoding.md). -/

namespace Sys2Proof.Machine

/-- Settles O1, by the form of the operation: its fields come back from the packed word. -/
theorem decodeOfEncodeIsTheOperation : Obligations.DecodeOfEncodeIsTheOperation := by
  intro i hwf
  cases i using instr_cases with
  | read r size sub => rw [encode_readOf, decode_packCw_read]
  | write r size sub wdata => rw [encode_writeOf, decode_packCw_write]
  | rdBad idx size sub => exact decode_packCw_rdBad size sub 0 hwf
  | wrBad idx size sub wdata => exact decode_packCw_wrBad size sub wdata hwf

/-- Settles O2, by the direction and the index of the word. -/
theorem encodeOfDecodeKeepsEveryBit : Obligations.EncodeOfDecodeKeepsEveryBit := by
  intro cw wd
  cases cw using commandWord_cases with
  | read r size sub => rw [decode_packCw_read, encode_readOf, cwWe_packCw]; exact ⟨wf_readOf .., rfl⟩
  | write r size sub => rw [decode_packCw_write, encode_writeOf, cwWe_packCw]; exact ⟨wf_writeOf .., rfl⟩
  | rdBad idx size sub hbad => rw [decode_packCw_rdBad _ _ _ hbad, cwWe_packCw]; exact ⟨hbad, rfl⟩
  | wrBad idx size sub hbad => rw [decode_packCw_wrBad _ _ _ hbad, cwWe_packCw]; exact ⟨hbad, rfl⟩

/-- Settles O3: the decoded operation has a row, its encoding is the word (O2), and rows are disjoint. -/
theorem everyCommandWordMatchesExactlyOneRow : Obligations.EveryCommandWordMatchesExactlyOneRow := by
  intro cw wd
  obtain ⟨hwf, hencode⟩ := encodeOfDecodeKeepsEveryBit cw wd
  obtain ⟨row, hmem, hname, hsel⟩ := tableRow (decode cw wd) hwf
  rw [hencode] at hsel
  exact ⟨row, filter_selects_eq hmem hsel, hname⟩

/-- A BAD row selects a word exactly when the decoded operation is for no register: the word's one row carries that
operation's mnemonic (R57). -/
theorem any_badRows_selects (cw : CommandWord) :
    badRows.any (fun row => row.selects cw) = true ↔ 14 ≤ (cwIdx cw).toNat := by
  obtain ⟨row, hrow, hname⟩ := everyCommandWordMatchesExactlyOneRow cw 0
  obtain ⟨hmem, hsel⟩ : row ∈ opcodeTable ∧ row.selects cw = true := by
    have hself : row ∈ opcodeTable.filter (fun r => r.selects cw) := hrow ▸ List.mem_singleton_self row
    exact List.mem_filter.mp hself
  rw [← regOfIdx_eq_none_iff, ← target_decode 0 cw, ← mnemonic_bad_iff, ← hname, ← mem_badRows_iff row hmem,
    List.any_eq_true]
  constructor
  · rintro ⟨row', hbad, hsel'⟩
    have honly : row' ∈ [row] := hrow ▸ List.mem_filter.mpr ⟨mem_opcodeTable_of_mem_badRows hbad, hsel'⟩
    rwa [← List.mem_singleton.mp honly]
  · exact fun hbad => ⟨row, hbad, hsel⟩

/-- Settles O4: each match column is the packed direction and index of its register. -/
theorem directionAndIndexSelectTheOperation : Obligations.DirectionAndIndexSelectTheOperation := by
  intro cw wd
  have hread := fun r => selectionMask_read r wd cw
  have hwrite := fun r => selectionMask_write r wd cw
  exact ⟨hread .ctrl, hwrite .ctrl, hread .stat, hwrite .stat, hread .milliseconds, hwrite .milliseconds,
    hread .seconds, hwrite .seconds, hread .alarm, hwrite .alarm, hread .watchdog, hwrite .watchdog,
    hread .persistent0, hwrite .persistent0, hread .persistent1, hwrite .persistent1,
    hread .persistent2, hwrite .persistent2, hread .persistent3, hwrite .persistent3,
    hread .persistent4, hwrite .persistent4, hread .persistent5, hwrite .persistent5,
    hread .debug, hwrite .debug, hread .version, hwrite .version,
    (decode_eq_rdBad_iff wd cw).symm, (decode_eq_wrBad_iff wd cw).symm, any_badRows_selects cw⟩

end Sys2Proof.Machine
end

section
/-! SUPPORT. The operation that the signals of a cycle present, invariants along a run of cycles, and the bits of CTRL
that lane 3 holds (spec 20_memory.md R34, R40, 30_encoding.md R50 to R52, R55, 42_control_latch.md R117). -/

namespace Sys2Proof.Machine

/-! ## The operation of a cycle (R50 to R52) -/

section
variable (c : PortIn)

/-- The signals of a cycle are the fields of its command word (R51 to R53). -/
theorem cw_eq_packCw : c.cw = packCw c.we c.size (c.addr.extractLsb' 4 9) (c.addr.extractLsb' 0 4) := by
  have haddr : c.addr.extractLsb' 4 9 ++ c.addr.extractLsb' 0 4 = c.addr := by
    exact (BitVec.extractLsb'_append_extractLsb'_eq_extractLsb' rfl).trans BitVec.extractLsb'_eq_self
  rw [packCw, haddr]
  rfl

/-- The direction of the presented operation is `we` (R50). -/
theorem isWrite_operation : c.operation.isWrite = c.we := by
  rw [PortIn.operation, isWrite_decode, cw_eq_packCw, cwWe_packCw]

/-- The register of the presented operation is the one that `addr[12:4]` selects (R52). -/
theorem target_operation : c.operation.target = regOfIdx (c.addr.extractLsb' 4 9) := by
  rw [PortIn.operation, target_decode, cw_eq_packCw, cwIdx_packCw]

/-- A performed write operation of `r` makes its cycle a write of `r` (R52, R57). -/
theorem writes_of_operation {c : PortIn} {r : Reg} (hperf : c.performs = true) (htarget : c.operation.target = some r)
    (hwrite : c.operation.isWrite = true) : c.writes r = true := by
  rw [isWrite_operation] at hwrite
  rw [target_operation] at htarget
  have hidx : (c.addr >>> 4).toNat = r.idx.toNat := by
    rw [← idx_of_regOfIdx htarget, BitVec.extractLsb'_toNat, BitVec.toNat_ushiftRight, Nat.shiftRight_eq_div_pow]
    have := c.addr.isLt
    omega
  simp [PortIn.writes, hperf, hwrite, hidx]

end

/-- The cycle of a read performs that read at the cycle's sample (R50, R57). -/
theorem clockCycle_readCycle (r : Reg) (size : Size) (sub : SubOffset) (q : Sample) (s : State) :
    clockCycle (readCycle r size sub q) s = exec (readOf r size sub) { s with sample := q } := by
  have hop : (readCycle r size sub q).operation = readOf r size sub :=
    decode_packCw_read r size sub 0
  rw [← hop]
  rfl

/-! ## Invariants along a run (R40, R130) -/

/-- Every operation completes (R130). -/
theorem exec_completes (i : Instr) (s : State) : ∃ t, exec i s = .next t := by
  cases i using instr_cases with
  | read r size sub => exact ⟨_, exec_readOf r size sub s⟩
  | write r size sub wdata => exact ⟨_, exec_writeOf r size sub wdata s⟩
  | rdBad idx size sub => exact ⟨_, exec_rdBad idx size sub s⟩
  | wrBad idx size sub wdata => exact ⟨_, exec_wrBad idx size sub wdata s⟩

/-- Every cycle completes (R130). -/
theorem clockCycle_completes (c : PortIn) (s : State) : ∃ t, clockCycle c s = .next t := by
  unfold clockCycle
  split
  · exact ⟨_, rfl⟩
  · split
    · exact exec_completes c.operation _
    · exact ⟨_, rfl⟩

/-- What each cycle of a list keeps holds after the run over it, and any run goes on from there (R40). -/
theorem runCycles_invariant {P : State → Prop} {cs : List PortIn}
    (hkeep : ∀ c ∈ cs, ∀ s t, P s → clockCycle c s = .next t → P t) {s : State} (hs : P s) :
    ∃ t, P t ∧ ∀ ds, runCycles (cs ++ ds) s = runCycles ds t := by
  induction cs generalizing s with
  | nil => exact ⟨s, hs, fun _ => rfl⟩
  | cons c cs ih =>
    obtain ⟨u, hcycle⟩ := clockCycle_completes c s
    have hu : P u := hkeep c List.mem_cons_self s u hs hcycle
    obtain ⟨t, ht, hrun⟩ := ih (fun c' hc' => hkeep c' (List.mem_cons_of_mem c hc')) hu
    exact ⟨t, ht, fun ds => (runCycles_cons hcycle).trans (hrun ds)⟩

/-- A cycle that neither writes a storage register nor resets keeps its cell: of the operations only that register's
own writes could change it (R12, R38). -/
theorem get_of_clockCycle_leaves {c : PortIn} {r : Reg} {s t : State} (hlive : r.isLive = false)
    (hleaves : c.leaves r = true) (h : clockCycle c s = .next t) : t.get r = s.get r := by
  obtain ⟨hrst, hquiet⟩ : c.rst = false ∧ c.writes r = false := by simpa [PortIn.leaves] using hleaves
  rcases clockCycle_next h with ⟨hreset, _⟩ | ⟨_, hreq, hexec⟩ | ⟨_, _, rfl⟩
  · rw [hrst] at hreset
    contradiction
  · by_contra hne
    have hperf : c.performs = true := by simp [PortIn.performs, hreq, hrst]
    rcases cellsChangeOnlyByTheirOwnOperations.1 _ _ _ r hexec hne with ⟨htarget, hwrite⟩ | ⟨hlive', _⟩
    · rw [writes_of_operation hperf htarget hwrite] at hquiet
      contradiction
    · rw [hlive] at hlive'
      contradiction
  · rfl

/-- A write of CTRL that the latch lets pass, and a write of any other register, stores the merged value (R72, R115). -/
theorem storedOn_of_quiet {r : Reg} {old new : Word} (h : r = .ctrl → latchFires old new = false) :
    storedOn r old new = new := by
  unfold storedOn
  split
  · next hr => simp [applyWrite, h hr]
  · rfl

/-! ## The gate bits lie in lane 3 of CTRL (R13, R34) -/

/-- Lane 3 holds both gate bits (R13, R34). -/
theorem gateBits_congr {v w : Word} (h : lane v 3 = lane w 3) : gateReq v = gateReq w ∧ gateAck v = gateAck w := by
  have hbit : ∀ j < 8, v.getLsbD (8 * 3 + j) = w.getLsbD (8 * 3 + j) := by
    intro j hj
    rw [← getLsbD_lane v 3 hj, h, getLsbD_lane w 3 hj]
  exact ⟨hbit 7 (by decide), hbit 6 (by decide)⟩

/-- A 1-byte access addresses lane 3 only by `sub[1:0]` = 3 (R53). -/
theorem addressesLane_byte_three : ∀ sub : SubOffset, sub.extractLsb' 0 2 ≠ 3 → addressesLane 0 sub 3 = false := by
  decide

/-- A 2-byte access addresses lane 3 only by `sub[1]` = 1 (R36, R53). -/
theorem addressesLane_half_three : ∀ sub : SubOffset, sub.getLsbD 1 = false → addressesLane 1 sub 3 = false := by
  decide

end Sys2Proof.Machine
end

section
/-! The statements about reads of any width, the merge, narrow writes of CTRL and the storage round trip (spec
30_encoding.md R55, R59, 40_register_file.md section 3, 42_control_latch.md R117). -/

namespace Sys2Proof.Machine

/-- Settles O33: the write stores the value, the cell is an invariant of the cycles between, the read returns it. -/
theorem storageRoundTrip : Obligations.StorageRoundTrip := by
  intro r hlive s sub sub' size' v q0 q1 cs hleaves hquiet
  obtain ⟨t0, hwrite, hstored⟩ := exec_writeOf_word v sub r { s with sample := q0 }
  have hget0 : t0.get r = v := by
    rw [hstored]
    refine storedOn_of_quiet fun hr => ?_
    subst hr
    exact hquiet rfl
  have hcycle0 := (clockCycle_writeCycle r 2 sub v q0 s).trans hwrite
  obtain ⟨t1, hget1, hrun⟩ := runCycles_invariant (P := fun t => t.get r = v) (cs := cs)
    (fun c hc _ _ hs h => (get_of_clockCycle_leaves hlive (hleaves c hc) h).trans hs) hget0
  have hread := (clockCycle_readCycle r size' sub' q1 t1).trans (exec_readOf r size' sub' { t1 with sample := q1 })
  refine ⟨_, (runCycles_cons hcycle0).trans ((hrun _).trans ((runCycles_cons hread).trans (runCycles_nil _))), ?_⟩
  rw [refreshFor_of_not_isLive hlive]
  exact congrArg (Response.mk · none) hget1

/-- Settles O28: such a write addresses no part of lane 3, which holds both bits. -/
theorem lowLaneCtrlWritesKeepTheGateBits : Obligations.LowLaneCtrlWritesKeepTheGateBits := by
  intro size sub wdata s hlow
  have hout : addressesLane size sub 3 = false := by
    rcases hlow with ⟨rfl, hsub⟩ | ⟨rfl, hsub⟩
    · exact addressesLane_byte_three sub hsub
    · exact addressesLane_half_three sub hsub
  exact ⟨_, rfl, gateBits_congr (lane_storedOn_merge s.regs.ctrl wdata sub size .ctrl (by decide) hout)⟩

/-- Settles O42: a read word at a defined index is the read of its register, whose meaning uses no other operand. -/
theorem readsIgnoreWidthAndPosition : Obligations.ReadsIgnoreWidthAndPosition := by
  intro cw wd s hread
  have hdecode : ∀ cw' wd' r, cwWe cw' = false → regOfIdx (cwIdx cw') = some r →
      decode cw' wd' = readOf r (cwSize cw') (cwSub cw') :=
    fun cw' wd' r hwe hsel => (decode_eq_readOf_iff r wd' cw').mpr ⟨hwe, idx_of_regOfIdx hsel⟩
  refine ⟨fun cw' wd' hread' hidx hle => ?_, fun r hsel => ?_, fun hbad => ?_⟩
  · cases hsel : regOfIdx (cwIdx cw) with
    | none =>
      have := (regOfIdx_eq_none_iff _).mp hsel
      omega
    | some r => rw [hdecode cw' wd' r hread' (hidx ▸ hsel), hdecode cw wd r hread hsel, exec_readOf, exec_readOf]
  · rw [hdecode cw wd r hread hsel]
    exact ⟨_, exec_readOf .., rfl⟩
  · rw [(decode_eq_rdBad_iff wd cw).mpr ⟨hread, hbad⟩]
    exact ⟨_, exec_rdBad .., rfl⟩

/-- Settles O22: the width of the two narrow sizes gives the formula as written, the two others write 4 bytes. -/
theorem mergeFollowsTheFormula : Obligations.MergeFollowsTheFormula := by
  intro old sub value
  have hreserved : merge old sub 3 value = merge old sub 2 value := merge_congr_access rfl rfl old value
  exact ⟨rfl, rfl, merge_word old value sub, hreserved.trans (merge_word old value sub)⟩

end Sys2Proof.Machine
end

section
/-! The statement about the plain-storage registers, those that are neither live nor CTRL: one equation for their reads
and one for their writes (spec 40_register_file.md R72). -/

namespace Sys2Proof.Machine

section
variable {r : Reg} (size : Size) (sub : SubOffset) (wdata : Word) (s : State)

/-- A write of a register that is not live moves no base (R22, R72). -/
theorem rebaseFor_of_not_isLive (v : Word) (hlive : r.isLive = false) : s.rebaseFor r v = s := by
  obtain ⟨hms, hsec⟩ := ne_of_not_isLive hlive
  unfold State.rebaseFor
  split
  · contradiction
  · contradiction
  · rfl

/-- A read of a register that is not live answers the stored cell and refreshes nothing (R72, R116). -/
theorem exec_readOf_of_not_isLive (hlive : r.isLive = false) :
    exec (readOf r size sub) s = .next { s with resp := ⟨s.get r, none⟩ } := by
  rw [exec_readOf, refreshFor_of_not_isLive hlive]
  rfl

/-- A write of a plain-storage register stores the merge in its cell: it moves no base, and no latch acts on it (R72). -/
theorem exec_writeOf_of_plain (hlive : r.isLive = false) (hctrl : r ≠ .ctrl) :
    exec (writeOf r size sub wdata) s =
      .next { s with regs := s.regs.set r (merge (s.get r) sub size wdata), resp := ⟨0, none⟩ } := by
  rw [exec_writeOf, rebaseFor_of_not_isLive _ _ hlive, storedOn_of_quiet fun h => absurd h hctrl]
  rfl

end

/-- Settles O12: each of the eleven registers is neither live nor CTRL. -/
theorem plainStorageReadsAndMerges : Obligations.PlainStorageReadsAndMerges := by
  intro size sub wdata s
  have hread := fun (r : Reg) (hlive : r.isLive = false) => exec_readOf_of_not_isLive size sub s hlive
  have hwrite := fun (r : Reg) (hlive : r.isLive = false) (hctrl : r ≠ .ctrl) =>
    exec_writeOf_of_plain size sub wdata s hlive hctrl
  exact ⟨hread .stat rfl, hwrite .stat rfl nofun, hread .alarm rfl, hwrite .alarm rfl nofun,
    hread .watchdog rfl, hwrite .watchdog rfl nofun,
    hread .persistent0 rfl, hwrite .persistent0 rfl nofun, hread .persistent1 rfl, hwrite .persistent1 rfl nofun,
    hread .persistent2 rfl, hwrite .persistent2 rfl nofun, hread .persistent3 rfl, hwrite .persistent3 rfl nofun,
    hread .persistent4 rfl, hwrite .persistent4 rfl nofun, hread .persistent5 rfl, hwrite .persistent5 rfl nofun,
    hread .debug rfl, hwrite .debug rfl nofun, hread .version rfl, hwrite .version rfl nofun⟩

end Sys2Proof.Machine
end

section
/-! SUPPORT. The two live registers at once: which component of the sample and which base a live register shows, what
its operations do, and that a run keeps the base until the register is written (spec 41_timebase.md R101 to R107). -/

namespace Sys2Proof.Machine

/-! ## The time a live register shows (R100, R101) -/

/-- The component of a sample that a live register shows (R100, R101); for live registers only. -/
def Sample.shownBy (q : Sample) (r : Reg) : Word :=
  match r with
  | .seconds => q.nowSec
  | _ => q.nowMs

/-- The base a live register counts from (R22, R101); for live registers only. -/
def State.baseOf (s : State) (r : Reg) : Word :=
  match r with
  | .seconds => s.baseSec
  | _ => s.baseMs

/-- The difference to a base that was rebased to `v` at `now` is `v` plus the time elapsed since (R102, R103). -/
theorem sub_rebased (now now' v : Word) : now' - (now - v) = v + (now' - now) := by
  rw [← sub_add, add_comm]

/-- The live registers are MILLISECONDS and SECONDS. -/
theorem eq_of_isLive {r : Reg} (hlive : r.isLive = true) : r = .milliseconds ∨ r = .seconds := by
  simpa [Reg.isLive] using hlive

section
variable {r : Reg} (size : Size) (sub : SubOffset) (wdata v : Word) (s : State)

/-- A refresh stores in a live cell its sample component minus its base (R101). -/
theorem get_storeRefreshed_of_isLive (hlive : r.isLive = true) :
    s.storeRefreshed.get r = s.sample.shownBy r - s.baseOf r := by
  rcases eq_of_isLive hlive with rfl | rfl <;> rfl

/-- Rebasing a live register makes it count from its sample component minus the value (R102, R103). -/
theorem baseOf_rebaseFor (hlive : r.isLive = true) : (s.rebaseFor r v).baseOf r = s.sample.shownBy r - v := by
  rcases eq_of_isLive hlive with rfl | rfl <;> rfl

/-- A read of a live register refreshes both live cells and answers its own (R104, R105). -/
theorem exec_readOf_of_isLive (hlive : r.isLive = true) :
    exec (readOf r size sub) s = .next { s with
      regs := { s.regs with milliseconds := s.sample.nowMs - s.baseMs, seconds := s.sample.nowSec - s.baseSec }
      resp := ⟨s.sample.shownBy r - s.baseOf r, none⟩ } := by
  have hrefresh : s.refreshFor r = s.storeRefreshed := if_pos hlive
  rw [exec_readOf, hrefresh, get_storeRefreshed_of_isLive s hlive, storeRefreshed_eq]
  rfl

/-- A write of a live register stores the merge into the stored cell, and rebases to it (R106, R107). -/
theorem exec_writeOf_of_isLive (hlive : r.isLive = true) :
    exec (writeOf r size sub wdata) s =
      .next (((s.set r (merge (s.get r) sub size wdata)).rebaseFor r (merge (s.get r) sub size wdata)).respond 0) := by
  have hctrl : r = .ctrl → latchFires (s.get r) (merge (s.get r) sub size wdata) = false := by
    rintro rfl
    contradiction
  rw [exec_writeOf, storedOn_of_quiet hctrl]

end

/-! ## The base of a live register along a run (R22, R40) -/

/-- An operation that moves the base of a live register is a write of that register (R22). -/
theorem write_of_baseOf_ne {r : Reg} {i : Instr} {s t : State} (hlive : r.isLive = true) (hexec : exec i s = .next t)
    (hne : t.baseOf r ≠ s.baseOf r) : i.target = some r ∧ i.isWrite = true := by
  obtain ⟨hms, hsec⟩ := basesChangeOnlyByWritesOfTheirRegister i s t hexec
  rcases eq_of_isLive hlive with rfl | rfl
  · obtain ⟨size, sub, wdata, rfl⟩ := hms hne
    exact ⟨rfl, rfl⟩
  · obtain ⟨size, sub, wdata, rfl⟩ := hsec hne
    exact ⟨rfl, rfl⟩

/-- A cycle that neither writes a live register nor resets keeps the register's base (R22, R101). -/
theorem baseOf_of_clockCycle_leaves {c : PortIn} {r : Reg} {s t : State} (hlive : r.isLive = true)
    (hleaves : c.leaves r = true) (h : clockCycle c s = .next t) : t.baseOf r = s.baseOf r := by
  obtain ⟨hrst, hquiet⟩ : c.rst = false ∧ c.writes r = false := by simpa [PortIn.leaves] using hleaves
  rcases clockCycle_next h with ⟨hreset, _⟩ | ⟨_, hreq, hexec⟩ | ⟨_, _, rfl⟩
  · rw [hrst] at hreset
    contradiction
  · by_contra hne
    have hperf : c.performs = true := by simp [PortIn.performs, hreq, hrst]
    obtain ⟨htarget, hwrite⟩ := write_of_baseOf_ne hlive hexec hne
    rw [writes_of_operation hperf htarget hwrite] at hquiet
    contradiction
  · rfl

section
variable {r : Reg} {cs : List PortIn}

/-- After cycles that leave a live register alone, reading it answers the read's own sample minus the base at their
start (R101, R104, R105). -/
theorem runCycles_read_of_leaves (hlive : r.isLive = true) (hleaves : ∀ c ∈ cs, c.leaves r = true) (s : State)
    (size : Size) (sub : SubOffset) (q : Sample) :
    ∃ t, runCycles (cs ++ [readCycle r size sub q]) s = .next t ∧ t.resp = ⟨q.shownBy r - s.baseOf r, none⟩ := by
  obtain ⟨u, hbase, hrun⟩ := runCycles_invariant (P := fun u => u.baseOf r = s.baseOf r) (cs := cs)
    (fun c hc _ _ hs h => (baseOf_of_clockCycle_leaves hlive (hleaves c hc) h).trans hs) rfl
  have hread := (clockCycle_readCycle r size sub q u).trans
    (exec_readOf_of_isLive size sub { u with sample := q } hlive)
  refine ⟨_, (hrun _).trans ((runCycles_cons hread).trans (runCycles_nil _)), ?_⟩
  rw [← hbase]
  rfl

/-- From reset on, until it is first written, a live register reads the raw sample (R24, R101). -/
theorem runCycles_read_from_reset (hlive : r.isLive = true) (hleaves : ∀ c ∈ cs, c.leaves r = true) (size : Size)
    (sub : SubOffset) (q : Sample) :
    ∃ t, runCycles (cs ++ [readCycle r size sub q]) State.reset = .next t ∧ t.resp = ⟨q.shownBy r, none⟩ := by
  obtain ⟨t, hrun, hresp⟩ := runCycles_read_of_leaves hlive hleaves State.reset size sub q
  have hbase : State.reset.baseOf r = 0 := by
    rcases eq_of_isLive hlive with rfl | rfl <;> rfl
  rw [hbase, sub_zero] at hresp
  exact ⟨t, hrun, hresp⟩

/-- Set and count: a live register written at one sample and read at another answers the merged value plus the
difference of the samples (R101 to R103, R106, R107). -/
theorem runCycles_write_then_read (hlive : r.isLive = true) (hleaves : ∀ c ∈ cs, c.leaves r = true) (s : State)
    (size size' : Size) (sub sub' : SubOffset) (wdata : Word) (q0 q1 : Sample) :
    ∃ t, runCycles (writeCycle r size sub wdata q0 :: (cs ++ [readCycle r size' sub' q1])) s = .next t ∧
      t.resp = ⟨q1.shownBy r - q0.shownBy r + merge (s.get r) sub size wdata, none⟩ := by
  have hwrite := (clockCycle_writeCycle r size sub wdata q0 s).trans
    (exec_writeOf_of_isLive size sub wdata { s with sample := q0 } hlive)
  obtain ⟨t, hrun, hresp⟩ := runCycles_read_of_leaves hlive hleaves _ size' sub' q1
  refine ⟨t, (runCycles_cons hwrite).trans hrun, hresp.trans ?_⟩
  have hbase := baseOf_rebaseFor (merge (s.get r) sub size wdata)
    (({ s with sample := q0 } : State).set r (merge (s.get r) sub size wdata)) hlive
  rw [add_comm, ← sub_rebased]
  exact congrArg (fun base => Response.mk (q1.shownBy r - base) none) hbase

end

end Sys2Proof.Machine
end

section
/-! The statements about the live registers (spec 41_timebase.md). -/

namespace Sys2Proof.Machine

/-- Settles O31: the base is an invariant of the cycles between, and after reset both bases are 0. -/
theorem liveRegistersSetAndCount : Obligations.LiveRegistersSetAndCount :=
  ⟨fun s _ size size' sub sub' wdata q0 q1 hleaves =>
      runCycles_write_then_read rfl hleaves s size size' sub sub' wdata q0 q1,
    fun _ size sub q hleaves => runCycles_read_from_reset rfl hleaves size sub q,
    fun s _ size size' sub sub' wdata q0 q1 hleaves =>
      runCycles_write_then_read rfl hleaves s size size' sub sub' wdata q0 q1,
    fun _ size sub q hleaves => runCycles_read_from_reset rfl hleaves size sub q⟩

/-- Between two host instants the seconds component advances by the whole seconds between them: EPOCH cancels (R100). -/
theorem hostSample_nowSec_sub (t0 t1 : Int) :
    (hostSample t1).nowSec - (hostSample t0).nowSec = BitVec.ofInt 32 (t1 / 1000 - t0 / 1000) := by
  calc (hostSample t1).nowSec - (hostSample t0).nowSec
      = BitVec.ofInt 32 ((t1 / 1000 - Config.epoch) - (t0 / 1000 - Config.epoch)) := (Int.cast_sub _ _).symm
    _ = BitVec.ofInt 32 (t1 / 1000 - t0 / 1000) := by rw [sub_sub_sub_cancel_right]

/-- Settles O32: set and count (O31) with no cycle between, at two samples of the host. -/
theorem secondsCountFromAWriteWhateverTheEpoch : Obligations.SecondsCountFromAWriteWhateverTheEpoch := by
  intro s v sub sub' size' t0 t1
  obtain ⟨t, hrun, hresp⟩ := runCycles_write_then_read (r := .seconds) (cs := []) rfl (by simp) s 2 size' sub sub' v
    (hostSample t0) (hostSample t1)
  refine ⟨t, hrun, (congrArg Response.rdata hresp).trans ?_⟩
  calc (hostSample t1).nowSec - (hostSample t0).nowSec + merge (s.get .seconds) sub 2 v
      = BitVec.ofInt 32 (t1 / 1000 - t0 / 1000) + v := by rw [hostSample_nowSec_sub, merge_word]
    _ = v + BitVec.ofInt 32 (t1 / 1000 - t0 / 1000) := add_comm _ _

/-- Settles O44, by the form of the operation: only a refresh and a rebase use the sample, and both are for live
registers. -/
theorem onlyLiveOperationsUseTheSample : Obligations.OnlyLiveOperationsUseTheSample := by
  intro i s q htarget
  cases i using instr_cases with
  | read r size sub =>
    have hlive := htarget r (target_readOf ..)
    rw [exec_readOf_of_not_isLive _ _ _ hlive, exec_readOf_of_not_isLive _ _ _ hlive]
    rfl
  | write r size sub wdata =>
    have hlive := htarget r (target_writeOf ..)
    rw [exec_writeOf, exec_writeOf, rebaseFor_of_not_isLive _ _ hlive, rebaseFor_of_not_isLive _ _ hlive]
    rfl
  | rdBad idx size sub => rw [exec_rdBad, exec_rdBad]; rfl
  | wrBad idx size sub wdata => rw [exec_wrBad, exec_wrBad]; rfl

/-- Settles O15: the mask and match of the read, and the read of a live register. -/
theorem readMilliseconds : Obligations.ReadMilliseconds :=
  ⟨fun cw wd => (selectionMask_read .milliseconds wd cw).mp,
    fun size sub s => exec_readOf_of_isLive (r := .milliseconds) size sub s rfl⟩

/-- Settles O16, as O15. -/
theorem readSeconds : Obligations.ReadSeconds :=
  ⟨fun cw wd => (selectionMask_read .seconds wd cw).mp,
    fun size sub s => exec_readOf_of_isLive (r := .seconds) size sub s rfl⟩

/-- Settles O17: the mask and match of the write, and the write of a live register. -/
theorem writeMilliseconds : Obligations.WriteMilliseconds :=
  ⟨fun cw wd => (selectionMask_write .milliseconds wd cw).mp,
    fun size sub wdata s => exec_writeOf_of_isLive (r := .milliseconds) size sub wdata s rfl⟩

/-- Settles O18, as O17. -/
theorem writeSeconds : Obligations.WriteSeconds :=
  ⟨fun cw wd => (selectionMask_write .seconds wd cw).mp,
    fun size sub wdata s => exec_writeOf_of_isLive (r := .seconds) size sub wdata s rfl⟩

/-- Settles O30: the first three clauses are the definitions, the others the arithmetic of a rebased sample. -/
theorem rebaseThenRefreshCountsFromTheValue : Obligations.RebaseThenRefreshCountsFromTheValue :=
  fun s v q => ⟨rfl, rfl, rfl, sub_sub_cancel s.sample.nowMs v, sub_sub_cancel s.sample.nowSec v,
    sub_rebased s.sample.nowMs q.nowMs v, sub_rebased s.sample.nowSec q.nowSec v⟩

end Sys2Proof.Machine
end

section
/-! SUPPORT. The latch on CTRL: when it fires, the gate bits of what it stores, that only WR.CTRL stores into CTRL, and
a cycle that writes 4 bytes (spec 42_control_latch.md R115 to R119). -/

namespace Sys2Proof.Machine

section
variable {old new : Word}

/-- The latch fires on a rising edge of bit 31 (R115). -/
theorem latchFires_iff : latchFires old new = true ↔ gateReq new = true ∧ gateReq old = false := by
  rw [latchFires, Bool.and_eq_true, Bool.not_eq_true']

/-- Without a rising edge the latch stays quiet (R115). -/
theorem latchFires_eq_false_iff : latchFires old new = false ↔ gateReq new = false ∨ gateReq old = true := by
  rw [latchFires, Bool.and_eq_false_iff, Bool.not_eq_false']

/-- On a rising edge bit 30 is added (R115). -/
theorem applyWrite_of_fires (h : latchFires old new = true) : applyWrite old new = new ||| 0x40000000 := if_pos h

/-- Without a rising edge the value is stored as written (R115). -/
theorem applyWrite_of_quiet (h : latchFires old new = false) : applyWrite old new = new :=
  storedOn_of_quiet (r := .ctrl) fun _ => h

end

section
variable (old new : Word)

/-- The latch touches no bit but bit 30 (R115). -/
theorem getLsbD_applyWrite_of_ne {i : Nat} (hi : i ≠ 30) : (applyWrite old new).getLsbD i = new.getLsbD i := by
  rw [getLsbD_applyWrite, decide_eq_false hi, Bool.and_false, Bool.or_false]

/-- The latch leaves `GATE_REQ` as written (R115). -/
theorem gateReq_applyWrite : gateReq (applyWrite old new) = gateReq new :=
  getLsbD_applyWrite_of_ne old new (by decide)

/-- `GATE_ACK` after a write is the written bit, or the latch firing (R115). -/
theorem gateAck_applyWrite : gateAck (applyWrite old new) = (gateAck new || latchFires old new) :=
  (getLsbD_applyWrite old new 30).trans (congrArg (new.getLsbD 30 || ·) (Bool.and_true _))

/-- `apply_write` with the rising edge written on the bits of the two values (R115). -/
theorem applyWrite_eq_ite :
    applyWrite old new = if new.getLsbD 31 = true ∧ old.getLsbD 31 = false then new ||| 0x40000000 else new :=
  if_congr latchFires_iff rfl rfl

end

/-- Setting bit 31 sets `GATE_REQ` (R13). -/
theorem gateReq_or_bit31 (v : Word) : gateReq (v ||| 0x80000000) = true := by
  simp [gateReq]

/-- Clearing bit 31 clears `GATE_REQ` (R13). -/
theorem gateReq_clear_bit31 (v : Word) : gateReq (v &&& ~~~0x80000000) = false := by
  simp [gateReq]

/-- Clearing bit 31 keeps `GATE_ACK` (R13). -/
theorem gateAck_clear_bit31 (v : Word) : gateAck (v &&& ~~~0x80000000) = gateAck v := by
  simp [gateAck]

/-- WR.CTRL stores `apply_write` of the old content and the merged value, and no more (R117). -/
theorem exec_wrCtrl (size : Size) (sub : SubOffset) (wdata : Word) (s : State) :
    exec (.wrCtrl size sub wdata) s = .next { s with
      regs := { s.regs with ctrl := applyWrite s.regs.ctrl (merge s.regs.ctrl sub size wdata) }
      resp := ⟨0, none⟩ } :=
  exec_writeOf .ctrl size sub wdata s

/-- A write operation of a register is its `writeOf` (R57). -/
theorem eq_writeOf_of_target {i : Instr} {r : Reg} (htarget : i.target = some r) (hwrite : i.isWrite = true) :
    ∃ size sub wdata, i = writeOf r size sub wdata := by
  cases i using instr_cases with
  | read r' size sub => simp at hwrite
  | write r' size sub wdata =>
    obtain rfl : r' = r := by simpa using htarget
    exact ⟨size, sub, wdata, rfl⟩
  | rdBad idx size sub => cases hwrite
  | wrBad idx size sub wdata => cases htarget

/-- Every operation but WR.CTRL keeps the whole CTRL cell (R38, R118). -/
theorem ctrl_of_exec_of_ne {i : Instr} {s t : State} (hexec : exec i s = .next t)
    (hne : ∀ size sub wdata, i ≠ .wrCtrl size sub wdata) : t.regs.ctrl = s.regs.ctrl := by
  by_contra hchanged
  rcases cellsChangeOnlyByTheirOwnOperations.1 i s t .ctrl hexec hchanged with ⟨htarget, hwrite⟩ | ⟨hlive, _⟩
  · obtain ⟨size, sub, wdata, hi⟩ := eq_writeOf_of_target htarget hwrite
    exact hne size sub wdata hi
  · cases hlive

/-- A cycle that writes 4 bytes of a register stores its value, through the latch on CTRL (R55, R117). -/
theorem clockCycle_writeCycle_word (r : Reg) (sub : SubOffset) (wdata : Word) (q : Sample) (s : State) :
    ∃ t, clockCycle (writeCycle r 2 sub wdata q) s = .next t ∧ t.get r = storedOn r (s.get r) wdata := by
  rw [clockCycle_writeCycle]
  exact exec_writeOf_word wdata sub r { s with sample := q }

end Sys2Proof.Machine
end

section
/-! The statements about CTRL and its latch (spec 42_control_latch.md). -/

namespace Sys2Proof.Machine

/-- Settles O26: in (a) the first write leaves bit 31 clear, so that the second is a rising edge; in (b) and (c) there
is no edge. -/
theorem latchPropertiesOfTheSource : Obligations.LatchPropertiesOfTheSource := by
  refine ⟨fun s old sub q0 q1 q2 hclear => ?_, fun s v sub hset _ => ?_, fun s sub => ?_⟩
  · obtain ⟨t0, hcycle0, hctrl0⟩ := clockCycle_writeCycle_word .ctrl sub old q0 s
    obtain ⟨t1, hcycle1, hctrl1⟩ := clockCycle_writeCycle_word .ctrl sub (old ||| 0x80000000) q1 t0
    have hread := (clockCycle_readCycle .ctrl 2 sub q2 t1).trans
      (exec_readOf_of_not_isLive 2 sub { t1 with sample := q2 } rfl)
    have hlow : gateReq (t0.get .ctrl) = false := by
      rw [hctrl0]
      exact (gateReq_applyWrite _ old).trans hclear
    have hedge := latchFires_iff.mpr ⟨gateReq_or_bit31 old, hlow⟩
    exact ⟨_, (runCycles_cons hcycle0).trans ((runCycles_cons hcycle1).trans
      ((runCycles_cons hread).trans (runCycles_nil _))), hctrl1.trans (applyWrite_of_fires hedge)⟩
  · obtain ⟨t, hexec, hctrl⟩ := exec_writeOf_word v sub .ctrl s
    have hquiet : latchFires s.regs.ctrl v = false := latchFires_eq_false_iff.mpr (.inr hset)
    exact ⟨t, hexec, hctrl.trans (applyWrite_of_quiet hquiet)⟩
  · obtain ⟨t, hexec, hctrl⟩ := exec_writeOf_word (s.regs.ctrl &&& ~~~0x80000000) sub .ctrl s
    have hquiet : latchFires s.regs.ctrl (s.regs.ctrl &&& ~~~0x80000000) = false :=
      latchFires_eq_false_iff.mpr (.inl (gateReq_clear_bit31 s.regs.ctrl))
    have hstored : t.regs.ctrl = s.regs.ctrl &&& ~~~0x80000000 := hctrl.trans (applyWrite_of_quiet hquiet)
    exact ⟨t, hexec, hstored, (congrArg gateAck hstored).trans (gateAck_clear_bit31 s.regs.ctrl)⟩

/-- Settles O27: WR.CTRL stores through the latch, and every other operation keeps the cell. -/
theorem gateBitsMoveOnlyByWritesOfCtrl : Obligations.GateBitsMoveOnlyByWritesOfCtrl := by
  intro i s t hexec
  split
  · next size sub wdata =>
    rw [exec_wrCtrl] at hexec
    cases hexec
    exact ⟨gateReq_applyWrite _ _, gateAck_applyWrite _ _⟩
  · next hother => exact ctrl_of_exec_of_ne hexec hother

/-- Settles O13: the mask and match of the read, and the read of a register that is not live. -/
theorem readCtrl : Obligations.ReadCtrl :=
  ⟨fun cw wd => (selectionMask_read .ctrl wd cw).mp,
    fun size sub s => exec_readOf_of_not_isLive (r := .ctrl) size sub s rfl, rfl⟩

/-- Settles O14: the mask and match of the write, and the write of CTRL with the edge written on the bits. -/
theorem writeCtrl : Obligations.WriteCtrl := by
  refine ⟨fun cw wd => (selectionMask_write .ctrl wd cw).mp, fun size sub wdata s => ?_⟩
  rw [exec_wrCtrl, applyWrite_eq_ite]

/-- Settles O25: the two cases of the latch, and the bits of what it stores. -/
theorem applyWriteForcesBitThirtyOnRisingEdge : Obligations.ApplyWriteForcesBitThirtyOnRisingEdge :=
  fun old new => ⟨fun hnew hold => applyWrite_of_fires (latchFires_iff.mpr ⟨hnew, hold⟩),
    fun h => applyWrite_of_quiet (latchFires_eq_false_iff.mpr h), gateAck_applyWrite old new,
    fun _ hi => getLsbD_applyWrite_of_ne old new hi⟩

end Sys2Proof.Machine
end

section
/-! SUPPORT. The offset inside a command word, the two dispatch functions over the array of cells at a defined index and
at any other, and the report each operation and each cycle makes (spec 10_state.md R10, 30_encoding.md R50 to R52,
43_register_access.md R125 to R131, 60_exceptions.md R135, R136). -/

namespace Sys2Proof.Machine

/-! ## The offset of a command word (R51 to R53) -/

section
variable (we : Bool) (size : Size) (idx : Index) (sub : SubOffset) (addr : Offset)

/-- The low 13 bits of a command word are the offset as presented (R51). -/
theorem extractLsb'_packCw : (packCw we size idx sub).extractLsb' 0 13 = idx ++ sub :=
  BitVec.extractLsb'_append_eq_right

/-- The index of an offset is its bits above the lane selector (R52). -/
theorem append_shiftRight_four : ((idx ++ sub : Offset) >>> 4).toNat = idx.toNat := by
  have hsub := sub.isLt
  have hnat : (idx ++ sub : Offset).toNat = idx.toNat * 2 ^ 4 + sub.toNat := by
    rw [BitVec.toNat_append, ← Nat.shiftLeft_add_eq_or_of_lt hsub, Nat.shiftLeft_eq]
  rw [BitVec.toNat_ushiftRight, hnat, Nat.shiftRight_eq_div_pow]
  omega

/-- The lane selector of an offset is its low four bits (R53). -/
theorem append_setWidth_four : (idx ++ sub : Offset).setWidth 4 = sub := BitVec.setWidth_append_eq_right

/-- An offset is its index and its lane selector (R51). -/
theorem offset_eq_append : addr.extractLsb' 4 9 ++ addr.extractLsb' 0 4 = addr :=
  (BitVec.extractLsb'_append_extractLsb'_eq_extractLsb' rfl).trans BitVec.extractLsb'_eq_self

end

/-- The index of a register is one of the fourteen (R11). -/
theorem idx_toNat_lt (r : Reg) : r.idx.toNat < 14 := by cases r <;> decide

/-! ## The dispatch functions over the array of cells (R125, R126) -/

section
variable (r : Reg) (idx : Index) (size : Size) (sub : SubOffset) (wdata v : Word) (s : State)

/-- `x[i]` at the index of a register is its cell (R10, R70). -/
theorem cellAt_idx : cellAt s r.idx.toNat = s.get r := by cases r <;> rfl

/-- `x[i] <- v` at the index of a register stores into its cell (R10, R71). -/
theorem setCellAt_idx : setCellAt s r.idx.toNat v = s.set r v := by cases r <;> rfl

/-- The array index is 2 or 3 exactly for the live registers (R11, R125). -/
theorem idx_two_or_three_iff : r.idx.toNat = 2 ∨ r.idx.toNat = 3 ↔ r.isLive = true := by cases r <;> decide

/-- `read` at a defined index is the read of that register: of the stored cell, refreshed first if it is live (R125). -/
theorem accessRead_of_defined :
    accessRead (r.idx ++ sub) s = (s.refreshFor r).respond ((s.refreshFor r).get r) := by
  have hle : r.idx.toNat ≤ 13 := Nat.le_of_lt_succ (idx_toNat_lt r)
  unfold accessRead
  simp only [append_shiftRight_four, if_pos hle, idx_two_or_three_iff]
  cases hlive : r.isLive with
  | true => rcases eq_of_isLive hlive with rfl | rfl <;> rfl
  | false => rw [if_neg Bool.false_ne_true, cellAt_idx, refreshFor_of_not_isLive hlive]; rfl

/-- `write` at a defined index is the write of that register: the merge, and then the side effect of a live register or
of CTRL, which the array index selects (R126, R127). -/
theorem accessWrite_of_defined :
    accessWrite (r.idx ++ sub) size wdata s =
      ((s.set r (storedOn r (s.get r) (merge (s.get r) sub size wdata))).rebaseFor r
        (merge (s.get r) sub size wdata)).respond 0 := by
  have hle : r.idx.toNat ≤ 13 := Nat.le_of_lt_succ (idx_toNat_lt r)
  unfold accessWrite
  simp only [append_shiftRight_four, append_setWidth_four, if_pos hle, cellAt_idx, setCellAt_idx]
  cases r <;> rfl

/-- `read` at any other index reports the offset and changes no cell (R125, R128). -/
theorem accessRead_of_bad (hbad : 14 ≤ idx.toNat) : accessRead (idx ++ sub) s = raiseBadOffset .read (idx ++ sub) s := by
  have hgt : ¬ idx.toNat ≤ 13 := Nat.not_le_of_lt hbad
  unfold accessRead
  simp only [append_shiftRight_four, if_neg hgt]
  rfl

/-- `write` at any other index reports the offset and discards the value (R126, R129). -/
theorem accessWrite_of_bad (hbad : 14 ≤ idx.toNat) :
    accessWrite (idx ++ sub) size wdata s = raiseBadOffset .write (idx ++ sub) s := by
  have hgt : ¬ idx.toNat ≤ 13 := Nat.not_le_of_lt hbad
  unfold accessWrite
  simp only [append_shiftRight_four, if_neg hgt]
  rfl

end

/-! ## The report of an operation and of a cycle (R135, R136) -/

/-- The report an operation makes: RD.BAD and WR.BAD one with their direction and offset, every other operation none
(R128, R129, R136). -/
def reportOf : Instr → Option Report
  | .rdBad idx _ sub => some ⟨.read, idx ++ sub⟩
  | .wrBad idx _ sub _ => some ⟨.write, idx ++ sub⟩
  | _ => none

section
variable (r : Reg) (size : Size) (sub : SubOffset) (wdata : Word) (cw : CommandWord) (c : PortIn)

@[simp] theorem reportOf_readOf : reportOf (readOf r size sub) = none := by cases r <;> rfl
@[simp] theorem reportOf_writeOf : reportOf (writeOf r size sub wdata) = none := by cases r <;> rfl

/-- A command word reports its direction and its offset exactly when its index is 14 or more (R135, R136). -/
theorem reportOf_decode :
    reportOf (decode cw wdata) =
      if 14 ≤ (cwIdx cw).toNat then some ⟨if cwWe cw then .write else .read, cw.extractLsb' 0 13⟩ else none := by
  cases cw using commandWord_cases with
  | read r size sub =>
    rw [decode_packCw_read, reportOf_readOf, cwIdx_packCw, if_neg (Nat.not_le_of_lt (idx_toNat_lt r))]
  | write r size sub =>
    rw [decode_packCw_write, reportOf_writeOf, cwIdx_packCw, if_neg (Nat.not_le_of_lt (idx_toNat_lt r))]
  | rdBad idx size sub hbad =>
    have hge : 14 ≤ idx.toNat := of_decide_eq_true hbad
    rw [decode_packCw_rdBad _ _ _ hbad, cwIdx_packCw, cwWe_packCw, extractLsb'_packCw, if_pos hge]
    rfl
  | wrBad idx size sub hbad =>
    have hge : 14 ≤ idx.toNat := of_decide_eq_true hbad
    rw [decode_packCw_wrBad _ _ _ hbad, cwIdx_packCw, cwWe_packCw, extractLsb'_packCw, if_pos hge]
    rfl

/-- The report of the presented operation, in the signals of the cycle (R50, R51, R136). -/
theorem reportOf_operation :
    reportOf c.operation =
      if 14 ≤ (c.addr >>> 4).toNat then some ⟨if c.we then .write else .read, c.addr⟩ else none := by
  have hidx : (c.addr >>> 4).toNat = (c.addr.extractLsb' 4 9).toNat := by
    conv_lhs => rw [← offset_eq_append c.addr]
    exact append_shiftRight_four _ _
  rw [PortIn.operation, reportOf_decode, cw_eq_packCw, cwIdx_packCw, cwWe_packCw, extractLsb'_packCw, offset_eq_append,
    hidx]

/-- A cycle that performs an operation emits that operation's report, and no other cycle emits one (R136, R151). -/
theorem badReport_eq : c.badReport = if c.performs then reportOf c.operation else none := by
  unfold PortIn.badReport
  rw [reportOf_operation]
  cases c.performs <;> simp

/-- What a cycle reports is about an offset that selects no register (R135). -/
theorem le_of_badReport {c : PortIn} {e : Report} (h : c.badReport = some e) : 14 ≤ (e.addr >>> 4).toNat := by
  unfold PortIn.badReport at h
  split at h
  · next hbad =>
    cases h
    simpa using (Bool.and_eq_true_iff.mp hbad).2
  · cases h

end

section
variable (r : Reg) (v : Word) (s : State)

/-- A refresh reports nothing (R101). -/
@[simp] theorem refreshFor_trace : (s.refreshFor r).trace = s.trace := by
  unfold State.refreshFor; split <;> rfl

/-- Rebasing reports nothing (R102, R103). -/
@[simp] theorem rebaseFor_trace : (s.rebaseFor r v).trace = s.trace := by cases r <;> rfl

end

/-- What an operation does to the reports: its own stands on the port and at the end of the trace, and `rdata` is 0 with
a report and on a write (R131, R136). -/
theorem exec_reports {i : Instr} {s t : State} (h : exec i s = .next t) :
    t.resp.report = reportOf i ∧ t.trace = s.trace ++ (reportOf i).toList ∧
      ((reportOf i).isSome = true ∨ i.isWrite = true → t.resp.rdata = 0) := by
  cases i using instr_cases with
  | read r size sub =>
    rw [exec_readOf] at h
    cases h
    simp
  | write r size sub wdata =>
    rw [exec_writeOf] at h
    cases h
    simp
  | rdBad idx size sub =>
    rw [exec_rdBad] at h
    cases h
    exact ⟨rfl, rfl, fun _ => rfl⟩
  | wrBad idx size sub wdata =>
    rw [exec_wrBad] at h
    cases h
    exact ⟨rfl, rfl, fun _ => rfl⟩

/-- What a cycle does to the reports: reset empties the trace, any other cycle appends its report if it emits one, and
the port shows that report, with `rdata` = 0 unless the cycle performs a read of a register (R131, R136, R151). -/
theorem clockCycle_reports {c : PortIn} {s t : State} (h : clockCycle c s = .next t) :
    t.resp.report = c.badReport ∧ t.trace = (if c.rst then [] else s.trace) ++ c.badReport.toList ∧
      (c.badReport.isSome = true ∨ c.performs = false ∨ c.we = true → t.resp.rdata = 0) := by
  rw [badReport_eq]
  rcases clockCycle_next h with ⟨hrst, rfl⟩ | ⟨hrst, hreq, hexec⟩ | ⟨hrst, hreq, rfl⟩
  · have hperf : c.performs = false := by simp [PortIn.performs, hrst]
    rw [hperf, hrst]
    exact ⟨rfl, rfl, fun _ => rfl⟩
  · have hperf : c.performs = true := by simp [PortIn.performs, hrst, hreq]
    obtain ⟨hreport, htrace, hrdata⟩ := exec_reports hexec
    rw [isWrite_operation] at hrdata
    rw [hperf, hrst]
    exact ⟨hreport, htrace, fun hzero => hrdata (by simpa using hzero)⟩
  · have hperf : c.performs = false := by simp [PortIn.performs, hreq]
    rw [hperf, hrst]
    exact ⟨rfl, (List.append_nil _).symm, fun _ => rfl⟩

/-! ## The step (R50) -/

section
variable {c : PortIn} {s : State}

/-- A step with a pending cycle is that cycle (log 1). -/
theorem step_of_pending {rest : List PortIn} (h : s.inputs = c :: rest) :
    step s = clockCycle c { s with inputs := rest } := by
  unfold step
  rw [h]

/-- A step with nothing pending holds the state (log 2). -/
theorem step_of_nothing_pending (h : s.inputs = []) : step s = .next s.hold := by
  unfold step
  rw [h]

/-- A cycle with neither reset nor an operation holds the state, at its own sample (R50). -/
theorem clockCycle_of_idle (hrst : c.rst = false) (hreq : c.req = false) :
    clockCycle c s = .next { s with sample := c.sample }.hold := by
  simp [clockCycle, hrst, hreq]

end

end Sys2Proof.Machine
end

section
/-! The statements about the dispatch of an access, its BadOffset reports and the cycles without operation (spec
43_register_access.md, 60_exceptions.md). -/

namespace Sys2Proof.Machine

/-- Settles O38: a cycle appends its own report or empties the trace, and its report is what the port then shows. -/
theorem stepKeepsReportsConsistent : Obligations.StepKeepsReportsConsistent := by
  rintro s t ⟨htrace, _⟩ hstep
  rcases step_next hstep with ⟨_, rfl⟩ | ⟨c, rest, _, hcycle⟩
  · exact ⟨htrace, nofun⟩
  · obtain ⟨hreport', htrace', hrdata'⟩ := clockCycle_reports hcycle
    constructor
    · intro e he
      rw [htrace'] at he
      rcases List.mem_append.mp he with hold | hnew
      · cases hrst : c.rst with
        | true => simp [hrst] at hold
        | false => exact htrace e (by simpa [hrst] using hold)
      · exact le_of_badReport (Option.mem_toList.mp hnew)
    · intro e he
      rw [hreport'] at he
      rw [he] at htrace' hrdata'
      exact ⟨htrace' ▸ List.getLast?_concat, hrdata' (.inl rfl)⟩

/-- Settles O21, by direction and index of the word: the array and the register file give each access one meaning. -/
theorem execAgreesWithAccessDispatch : Obligations.ExecAgreesWithAccessDispatch := by
  intro cw wd s
  cases cw using commandWord_cases with
  | read r size sub =>
    rw [decode_packCw_read, exec_readOf, cwWe_packCw, extractLsb'_packCw, accessRead_of_defined]
    rfl
  | write r size sub =>
    rw [decode_packCw_write, exec_writeOf, cwWe_packCw, cwSize_packCw, extractLsb'_packCw, accessWrite_of_defined]
    rfl
  | rdBad idx size sub hbad =>
    rw [decode_packCw_rdBad _ _ _ hbad, exec_rdBad, cwWe_packCw, extractLsb'_packCw,
      accessRead_of_bad (hbad := of_decide_eq_true hbad)]
    rfl
  | wrBad idx size sub hbad =>
    rw [decode_packCw_wrBad _ _ _ hbad, exec_wrBad, cwWe_packCw, extractLsb'_packCw,
      accessWrite_of_bad (hbad := of_decide_eq_true hbad)]
    rfl

/-- Settles O37: the port shows the report of the cycle just performed. -/
theorem badStrobeMarksExactlyTheBadOffsetCycles : Obligations.BadStrobeMarksExactlyTheBadOffsetCycles := by
  intro s t c rest hpending hstep
  rw [step_of_pending hpending] at hstep
  obtain ⟨hreport, _, hrdata⟩ := clockCycle_reports hstep
  have hbad : (portOut t).bad = c.badReport.isSome := congrArg Option.isSome hreport
  exact ⟨hreport, hbad, rfl, fun hzero => hrdata (hbad ▸ hzero)⟩

/-- Settles O8: both cases are `State.hold`. -/
theorem cyclesWithoutOperationHoldTheState : Obligations.CyclesWithoutOperationHoldTheState :=
  ⟨fun _ _ _ hpending hrst hreq => (step_of_pending hpending).trans (clockCycle_of_idle hrst hreq),
    fun _ hnone => step_of_nothing_pending hnone⟩

/-- Settles O19: a read word at such an index decodes to RD.BAD, which raises BadOffset and does no more. -/
theorem readBadReportsOnce : Obligations.ReadBadReportsOnce :=
  ⟨fun cw wd hread hbad => (decode_eq_rdBad_iff wd cw).mpr ⟨hread, hbad⟩,
    fun idx size sub s _ => by rw [exec_rdBad, raiseBadOffset_eq]⟩

/-- Settles O20, as O19 with WR.BAD, which discards the value. -/
theorem writeBadReportsOnce : Obligations.WriteBadReportsOnce :=
  ⟨fun cw wd hwrite hbad => (decode_eq_wrBad_iff wd cw).mpr ⟨hwrite, hbad⟩,
    fun idx size sub wdata s _ => by rw [exec_wrBad, raiseBadOffset_eq]⟩

end Sys2Proof.Machine
end

section
/-! The statement about the report trace of a run without reset (spec 20_memory.md R40, 60_exceptions.md R136, R138). -/

namespace Sys2Proof.Machine

/-- A cycle without reset appends to the trace the report it emits, if any, and nothing else (R136, R138). -/
theorem trace_of_clockCycle {c : PortIn} {s t : State} (hrst : c.rst = false) (h : clockCycle c s = .next t) :
    t.trace = s.trace ++ c.badReport.toList := by
  obtain ⟨_, htrace, _⟩ := clockCycle_reports h
  simpa [hrst] using htrace

/-- The reports of a list of cycles are those of its first cycle and then those of the rest (R138). -/
theorem filterMap_badReport_cons (c : PortIn) (cs : List PortIn) :
    (c :: cs).filterMap PortIn.badReport = c.badReport.toList ++ cs.filterMap PortIn.badReport := by
  cases h : c.badReport with
  | none => exact List.filterMap_cons_none h
  | some e => exact List.filterMap_cons_some h

/-- Settles O36, by induction on the cycles from an arbitrary state: the first cycle appends its report, if any, before
those of the run over the rest. -/
theorem oneReportPerBadOffsetOperation : Obligations.OneReportPerBadOffsetOperation := by
  intro cs
  induction cs with
  | nil => exact fun s _ => ⟨_, runCycles_nil s, (List.append_nil _).symm⟩
  | cons c cs ih =>
    intro s hrst
    obtain ⟨hrst_c, hrst_cs⟩ := List.forall_mem_cons.mp hrst
    obtain ⟨u, hcycle⟩ := clockCycle_completes c s
    obtain ⟨t, hrun, htrace⟩ := ih u hrst_cs
    refine ⟨t, (runCycles_cons hcycle).trans hrun, ?_⟩
    calc t.trace
        = u.trace ++ cs.filterMap PortIn.badReport := htrace
      _ = s.trace ++ c.badReport.toList ++ cs.filterMap PortIn.badReport := by
        rw [trace_of_clockCycle hrst_c hcycle]
      _ = s.trace ++ (c :: cs).filterMap PortIn.badReport := by
        rw [List.append_assoc, filterMap_badReport_cons]

end Sys2Proof.Machine
end

section
/-! SUPPORT. A cycle that performs an operation and a reset cycle, each as one equation, the signals that present a
command word, and the run after any cycles (spec 30_encoding.md R50, R51, 70_reset_and_hazards.md R151). -/

namespace Sys2Proof.Machine

section
variable (cw : CommandWord) (wdata : Word) (q : Sample) {c : PortIn} {s : State}

/-- A cycle with an operation and no reset performs the operation at its own sample (R50, R100). -/
theorem clockCycle_of_performs (hrst : c.rst = false) (hreq : c.req = true) :
    clockCycle c s = exec c.operation { s with sample := c.sample } := by
  simp [clockCycle, hrst, hreq]

/-- A cycle with reset performs nothing, whatever else is on the port (R151). -/
theorem clockCycle_of_reset (hrst : c.rst = true) : clockCycle c s = .next (applyRst s) := by
  simp [clockCycle, hrst]

/-- The offset of a command word is its index and its lane selector (R51). -/
theorem extractLsb'_offset : cw.extractLsb' 0 13 = cwIdx cw ++ cwSub cw := by
  conv_lhs => rw [← packCw_fields cw]
  exact extractLsb'_packCw ..

/-- The signals that present a command word pack to it (R51). -/
theorem cw_ofWords : (PortIn.ofWords cw wdata q).cw = cw := by
  calc (PortIn.ofWords cw wdata q).cw
      = BitVec.ofBool (cwWe cw) ++ cwSize cw ++ cw.extractLsb' 0 13 := rfl
    _ = packCw (cwWe cw) (cwSize cw) (cwIdx cw) (cwSub cw) := by rw [extractLsb'_offset, packCw]
    _ = cw := packCw_fields cw

/-- Presenting a command word presents the operation it decodes to (R50, R57). -/
theorem operation_ofWords : (PortIn.ofWords cw wdata q).operation = decode cw wdata := by
  rw [PortIn.operation, cw_ofWords]
  rfl

/-- A step with an operation pending performs it, at the sample of its cycle (R50, R100). -/
theorem step_of_performs {rest : List PortIn} (h : s.inputs = c :: rest) (hrst : c.rst = false) (hreq : c.req = true) :
    step s = exec c.operation { s with inputs := rest, sample := c.sample } :=
  (step_of_pending h).trans (clockCycle_of_performs hrst hreq)

/-- A step with a command word presented performs the operation that it decodes to (R50, R57). -/
theorem step_of_ofWords {rest : List PortIn} (h : s.inputs = PortIn.ofWords cw wdata q :: rest) :
    step s = exec (decode cw wdata) { s with inputs := rest, sample := q } := by
  rw [step_of_performs h rfl rfl, operation_ofWords]
  rfl

end

/-- Any cycles complete, and any run goes on from the state they reach (R40, R130). -/
theorem runCycles_append (cs : List PortIn) (s : State) :
    ∃ t, ∀ ds, runCycles (cs ++ ds) s = runCycles ds t := by
  obtain ⟨t, _, hrun⟩ := runCycles_invariant (P := fun _ => True) (cs := cs) (s := s)
    (fun _ _ _ _ _ _ => trivial) trivial
  exact ⟨t, hrun⟩

end Sys2Proof.Machine
end

section
/-! The statements about the presented operation, completion and reset (spec 30_encoding.md, 43_register_access.md,
70_reset_and_hazards.md), and those about the platform (spec 20_memory.md, 41_timebase.md). -/

namespace Sys2Proof.Machine

/-- Settles O7: the cycle that `withFetchWord` presents has the sample of the state and leaves its pending cycles, so
that the step is the decoded operation on the state itself. -/
theorem fetchWordRunsTheTableOperation : Obligations.FetchWordRunsTheTableOperation := by
  intro s nbits w i hdecode
  rw [← Option.some.inj hdecode]
  exact step_of_ofWords _ _ _ rfl

/-- Settles O11: the cycles before the reset complete, and the reset cycle keeps nothing of the state they reach. -/
theorem nothingSurvivesReset : Obligations.NothingSurvivesReset := by
  intro s cs c hrst
  obtain ⟨t, hrun⟩ := runCycles_append cs s
  calc runCycles (cs ++ [c]) s
      = runCycles [c] t := hrun [c]
    _ = runCycles [] (applyRst t) := runCycles_cons (clockCycle_of_reset hrst)
    _ = .next State.reset := runCycles_nil (applyRst t)

/-- Settles O40: by whether a cycle is pending; every cycle and every operation completes. -/
theorem everyStepCompletes : Obligations.EveryStepCompletes := by
  refine ⟨fun s => ?step, fun i s => ?exec⟩
  case step =>
    cases hpending : s.inputs with
    | nil => exact ⟨s.hold, step_of_nothing_pending hpending, hpending⟩
    | cons c rest =>
      obtain ⟨t, hcycle⟩ := clockCycle_completes c { s with inputs := rest }
      exact ⟨t, (step_of_pending hpending).trans hcycle, clockCycle_inputs hcycle⟩
  case exec =>
    obtain ⟨t, hexec⟩ := exec_completes i s
    exact ⟨t, hexec, exec_inputs hexec, exec_sample hexec⟩

/-- Settles O5: each vector is the packed word of its fields, and a packed word decodes by direction and index. -/
theorem commandWordExamplesDecode : Obligations.CommandWordExamplesDecode := fun wd =>
  ⟨decode_packCw_read .ctrl 2 0 wd, decode_packCw_read .ctrl 0 15 wd, decode_packCw_read .version 2 15 wd,
    decode_packCw_rdBad (idx := 14) 2 0 wd rfl, decode_packCw_read .persistent5 2 0 wd,
    decode_packCw_wrBad (idx := 511) 2 15 wd rfl, decode_packCw_write .ctrl 0 3 wd, decode_packCw_write .alarm 3 0 wd⟩

/-- Settles O6: every command word decodes to a well-formed operation (O2). -/
theorem stepPerformsThePresentedOperation : Obligations.StepPerformsThePresentedOperation :=
  fun _ c _ hpending hrst hreq =>
    ⟨rfl, (encodeOfDecodeKeepsEveryBit c.cw c.wdata).1,
      step_of_performs hpending hrst hreq⟩

/-- Settles O10: the pending cycle is a reset cycle. -/
theorem resetCycleRestoresTheResetState : Obligations.ResetCycleRestoresTheResetState :=
  fun _ _ _ hpending hrst => (step_of_pending hpending).trans (clockCycle_of_reset hrst)

/-- Settles O39: the reset state has no report, neither in the trace nor on the port. -/
theorem resetReportsConsistent : Obligations.ResetReportsConsistent :=
  ⟨nofun, nofun⟩

/-- Settles O46: a remainder modulo 1000 fits the 32 bits of `now_ms`. -/
theorem hostSampleMeetsTheDuty : Obligations.HostSampleMeetsTheDuty := by
  intro t
  have hms : (hostSample t).nowMs.toNat < 1000 := by
    change (BitVec.ofInt 32 (t % 1000)).toNat < 1000
    rw [BitVec.toNat_ofInt]
    omega
  exact decide_eq_true hms

/-- Settles O47: inside the window the distance from WINDOW_BASE fits the 13 bits of an offset. -/
theorem busDecoderSelectsExactlyTheWindow : Obligations.BusDecoderSelectsExactlyTheWindow := by
  intro a o
  have hsize : Config.windowSize = 0x2000 := rfl
  unfold busOffset
  rw [hsize]
  split
  · next hin =>
    obtain ⟨hlow, hhigh⟩ := hin
    have hfits : (BitVec.ofNat 13 (a - Config.windowBase)).toNat = a - Config.windowBase := by
      rw [BitVec.toNat_ofNat]
      omega
    rw [Option.some_inj, ← BitVec.toNat_inj, hfits]
    exact ⟨fun h => ⟨hlow, hhigh, h.symm⟩, fun ⟨_, _, h⟩ => h.symm⟩
  · next hout => exact ⟨nofun, fun ⟨hlow, hhigh, _⟩ => absurd ⟨hlow, hhigh⟩ hout⟩

end Sys2Proof.Machine
end
